-- ==== Sys2Proof/Word.lean ====
section
/-! DEFINITION. The plain word types of the ZL32: bytes of the host link, seven-bit line characters, line ports. -/

namespace Sys2Proof

/-- A byte of the host link (11.1). -/
abbrev Byte := BitVec 8

/-- A seven-bit character code of a line port (manual, Conventions, Characters). -/
abbrev Code := BitVec 7

/-- A line port, 0 to 31 (R1). -/
abbrev Port := Fin 32

/-- A slot of the message table, 0 to 13 (R90). -/
abbrev Slot := Fin 14

end Sys2Proof
end

