-- ==== Sys2Proof/Syntax.lean ====
section
/-! DEFINITION. The commands of the ZL32: one constructor for each row of spec/opcode_table.json.
A command is an event on the part's timebase, on a line port's signals or on the host link. The rows that are orders of
the host carry the BODY of the inbound frame, byte for byte (R166, R181, 11.3), so that a body the part refuses is a
command too; the frame's KIND is the constructor's own, and its CHECK is right by construction (a wrong CHECK is the row
FRAME_BAD_CHECK). -/

namespace Sys2Proof

/-- Why an attempt of the speed search failed (R12): the measured width of the first space, in microseconds, and what was
sampled where the width matched a speed. -/
inductive SearchFailure where
  /-- The width `w` falls in no accept window of R10. -/
  | noWindow (w : Nat)
  /-- The width matched a speed, and data bits 1 to 7 are `code`, not CR. -/
  | notReturn (w : Nat) (code : Code)
  /-- The width matched a speed, and the first stop bit was space. -/
  | stopSpace (w : Nat)
  deriving DecidableEq, Repr

/-- The commands. Each row of the table is one constructor; the docstring gives the row and its rule. -/
inductive Instr where
  /-- POWER_UP (R180). -/
  | powerUp
  /-- SECOND_MARK (R129). -/
  | secondMark
  /-- ANSWER_WINDOW_EXPIRY (R9). -/
  | answerWindowExpiry (line : Port)
  /-- SPEED_WINDOW_EXPIRY (R12). -/
  | speedWindowExpiry (line : Port)
  /-- DRAIN_LIMIT_EXPIRY (R15). -/
  | drainLimitExpiry (line : Port)
  /-- GUARD_TIME_EXPIRY (R16). -/
  | guardTimeExpiry (line : Port)
  /-- RETRY_PERIOD_EXPIRY (R63). -/
  | retryPeriodExpiry (line : Port)
  /-- NOISE_WINDOW_EXPIRY (R52). -/
  | noiseWindowExpiry (line : Port)
  /-- LOCK_TIMER_EXPIRY (R83): the account, by number. -/
  | lockTimerExpiry (account : Nat)
  /-- SIGN_ON_LIMIT_EXPIRY (R99). -/
  | signOnLimitExpiry (line : Port)
  /-- WAIT_LIMIT_EXPIRY (R104). -/
  | waitLimitExpiry (line : Port)
  /-- HOLD_EXPIRY (R117): the session, by number. -/
  | holdExpiry (session : Nat)
  /-- IDLE_LIMIT_EXPIRY (R115): the session, by number. -/
  | idleLimitExpiry (session : Nat)
  /-- FUNDS_GRACE_EXPIRY (R151): the session, by number. -/
  | fundsGraceExpiry (session : Nat)
  /-- CLOSING_COUNTDOWN_EXPIRY (R151): the session, by number. -/
  | closingCountdownExpiry (session : Nat)
  /-- HOST_DOWN_LIMIT_EXPIRY (R176). -/
  | hostDownLimitExpiry
  /-- LINK_TIMEOUT_EXPIRY (R175). -/
  | linkTimeoutExpiry
  /-- RING_INDICATE_CHANGE (R4): the new level, true for ring present. -/
  | ringIndicateChange (line : Port) (present : Bool)
  /-- RING_START (R5). -/
  | ringStart (line : Port)
  /-- RING_COMPLETION (R5). -/
  | ringCompletion (line : Port)
  /-- ABANDON_TIMER_EXPIRY (R6). -/
  | abandonTimerExpiry (line : Port)
  /-- RING_STUCK (R7). -/
  | ringStuck (line : Port)
  /-- CARRIER_DETECT_CHANGE (R8): the new level, true for carrier present. -/
  | carrierDetectChange (line : Port) (present : Bool)
  /-- CARRIER_QUALIFIED_PRESENT (R9). -/
  | carrierQualifiedPresent (line : Port)
  /-- CARRIER_QUALIFIED_LOST (R13). -/
  | carrierQualifiedLost (line : Port)
  /-- SPEED_FOUND (R11): the width of the first space in microseconds and the eighth bit of the CR that followed. -/
  | speedFound (line : Port) (width : Nat) (eighth : Bool)
  /-- SEARCH_ATTEMPT_FAILED (R12). -/
  | searchAttemptFailed (line : Port) (failure : SearchFailure)
  /-- SETTLE_INTERVAL (R12). -/
  | settleInterval (line : Port)
  /-- CHARACTER_RECEIVED (R26): the seven data bits and the parity bit. -/
  | characterReceived (line : Port) (code : Code) (parityBit : Bool)
  /-- HELD_CHARACTER_RECEIVED (R24): the seven data bits and the parity bit of the held character. -/
  | heldCharacterReceived (line : Port) (code : Code) (parityBit : Bool)
  /-- BREAK_PENDING (R40). -/
  | breakPending (line : Port)
  /-- BREAK (R41). -/
  | breakReceived (line : Port)
  /-- LONG_SPACE (R42). -/
  | longSpace (line : Port)
  /-- CHARACTER_SENT (R43). -/
  | characterSent (line : Port)
  /-- PART_MESSAGE_SENT (R44): the message, by its slot of the message table. -/
  | partMessageSent (line : Port) (slot : Slot)
  /-- DROP_DRAINED (R15). -/
  | dropDrained (line : Port)
  /-- FRAME_LENGTH_DISCARD (R167): the KIND and LENGTH bytes taken. -/
  | frameLengthDiscard (kind length : Byte)
  /-- FRAME_BAD_CHECK (R167): the frame as received. -/
  | frameBadCheck (kind : Byte) (body : List Byte) (check : Byte)
  /-- UNKNOWN_KIND (R168): the good frame as received. -/
  | unknownKind (kind : Byte) (body : List Byte)
  /-- REPLY_SEND_START (R170). -/
  | replySendStart
  /-- REPORT_SEND_START (R171). -/
  | reportSendStart
  /-- MARK (R178), KIND 01h. -/
  | mark (body : List Byte)
  /-- RESTART (R179), KIND 02h. -/
  | restart (body : List Byte)
  /-- SET_CLOCK (R130), KIND 03h. -/
  | setClock (body : List Byte)
  /-- SET_LIMITS (R173), KIND 04h. -/
  | setLimits (body : List Byte)
  /-- SET_REPORTS (R172), KIND 05h. -/
  | setReports (body : List Byte)
  /-- SET_MESSAGE (R174), KIND 06h. -/
  | setMessage (body : List Byte)
  /-- SET_FAULT_POLICY (R56), KIND 07h. -/
  | setFaultPolicy (body : List Byte)
  /-- SET_CLASS (R86), KIND 08h. -/
  | setClass (body : List Byte)
  /-- SET_LOAD_STEPS (R140), KIND 09h. -/
  | setLoadSteps (body : List Byte)
  /-- LOAD_ACCOUNT (R71), KIND 10h. -/
  | loadAccount (body : List Byte)
  /-- CREDIT_ACCOUNT (R74), KIND 11h. -/
  | creditAccount (body : List Byte)
  /-- DROP_ACCOUNT (R76), KIND 12h. -/
  | dropAccount (body : List Byte)
  /-- UNLOCK_ACCOUNT (R77), KIND 13h. -/
  | unlockAccount (body : List Byte)
  /-- QUERY_ACCOUNT (R78), KIND 14h. -/
  | queryAccount (body : List Byte)
  /-- TARIFF_CLEAR (R133), KIND 18h. -/
  | tariffClear (body : List Byte)
  /-- TARIFF_ENTRY (R132), KIND 19h. -/
  | tariffEntry (body : List Byte)
  /-- COMMIT_TARIFF (R134), KIND 1Ah. -/
  | commitTariff (body : List Byte)
  /-- QUERY_TARIFF (R142), KIND 1Bh. -/
  | queryTariff (body : List Byte)
  /-- LINE_SERVICE_IN (R18), KIND 20h: action 0, or a body that no LINE SERVICE order has. -/
  | lineServiceIn (body : List Byte)
  /-- LINE_SERVICE_OUT (R18), KIND 20h: action 1, or a body that no LINE SERVICE order has. -/
  | lineServiceOut (body : List Byte)
  /-- LINE_SERVICE_RESTORE (R18), KIND 20h: action 2, or a body that no LINE SERVICE order has. -/
  | lineServiceRestore (body : List Byte)
  /-- SET_LINE_CALL (R20), KIND 21h: group 0, or a body that no SET LINE order has. -/
  | setLineCall (body : List Byte)
  /-- SET_LINE_INPUT (R48), KIND 21h: group 1, or a body that no SET LINE order has. -/
  | setLineInput (body : List Byte)
  /-- DROP_LINE (R19), KIND 22h. -/
  | dropLine (body : List Byte)
  /-- QUERY_LINE (R21), KIND 23h. -/
  | queryLine (body : List Byte)
  /-- SEND_TEXT (R124), KIND 28h. -/
  | sendText (body : List Byte)
  /-- END_SESSION (R123), KIND 29h. -/
  | endSession (body : List Byte)
  /-- QUERY_SESSION (R125), KIND 2Ah. -/
  | querySession (body : List Byte)
  /-- TAKE_BILL (R163), KIND 30h. -/
  | takeBill (body : List Byte)
  deriving DecidableEq, Repr

end Sys2Proof
end

