-- ==== Sys2Proof/Decode.lean ====
section
/-! DEFINITION. Words to commands. The block fetches no instructions and spec/opcode_table.json gives none of its rows any
bits, so no word spells a command: a command is an event or a frame, which reaches the block through its queue. -/

namespace Sys2Proof

/-- The command that a word spells by the table's bits. No row of the table gives bits. -/
def decodeTableWord (_nbits _w : Nat) : Option Instr := none

end Sys2Proof
end

