-- ==== Sys2Proof/Config.lean ====
section
/-! DEFINITION. The fixed quantities of the part, each from the rule named, and the two FREE VALUES of the model: orders
that the spec leaves open, opaque so that no proof can lean on one of them (log entry 2). -/

namespace Sys2Proof

/-- FREE VALUE (R84, R104, R114, R120, R127, R145, R165: "may be taken in any order"). The order in which the things that fall
together in draw number `draw` are taken: the place of the `i`-th of them. It has no body: every statement holds for every
order. -/
opaque Config.shareOrder : Nat → Nat → Nat

/-- FREE VALUE (R154: "Whether it comes before or after the session's charge is not fixed"; R137, R165). How many of the
things that fall together at a minute mark are taken, in draw number `draw`, before the Tariff Unit's share of it. -/
opaque Config.tariffPlace : Nat → Nat

/-- One unit of charge in the accumulator: 57,600 (R146). -/
abbrev Config.unit : Nat := 57600
/-- Half a unit: rounding at close (R155). -/
abbrev Config.halfUnit : Nat := 28800
/-- The ceiling of charged units when the cap is 0 (R146, R147). -/
abbrev Config.unitCeiling : Nat := 65535
/-- The largest balance, charged total and count of seconds (R69, R111). -/
abbrev Config.maxMoney : Nat := 16777215
/-- The length of the closing countdown, in metered seconds (R153). -/
abbrev Config.closingCountdown : Nat := 300
/-- Accounts in the table (R68). -/
abbrev Config.maxAccounts : Nat := 2048
/-- Session records plus bill records (R160). -/
abbrev Config.maxReservations : Nat := 128
/-- Entries of the report queue (R171). -/
abbrev Config.reportEntries : Nat := 64
/-- The reserve of free entries that an INPUT report needs (R37). -/
abbrev Config.inputReserve : Nat := 16
/-- Places of an output queue (R43). -/
abbrev Config.outputPlaces : Nat := 256
/-- Places of an output queue that host text may fill (R45). -/
abbrev Config.hostTextPlaces : Nat := 192
/-- The level at which DRAINED is due (R46). -/
abbrev Config.drainedLevel : Nat := 64
/-- The input buffer's length (R30). -/
abbrev Config.bufferLength : Nat := 128
/-- The most field marks of a record (R32). -/
abbrev Config.maxMarks : Nat := 8
/-- The drop drain limit, in second marks (R3). -/
abbrev Config.drainLimit : Nat := 10
/-- The guard time, in second marks (R3, R16). -/
abbrev Config.guardTime : Nat := 2
/-- The LEAD byte of a frame, C3h (R166). -/
abbrev Config.lead : Byte := 0xC3#8

end Sys2Proof
end

