-- ==== Sys2Proof/Machine/State.lean ====
section
/-! DEFINITION. The state of the ZL32 as plain data: every piece of state the spec names, block by block, the commands
that wait, and one field of the model's own (the number of free orders drawn). Each field cites the rule that names it;
INVENTORY.md lists them all. -/

namespace Sys2Proof.Machine

/-! ## Lines: the call fields (R1) -/

/-- The ten line states (R2). -/
inductive LineState where
  | outOfService | idle | ringing | answering | searching | connected | dropping | guard | resting | latched
  deriving DecidableEq, Repr

/-- The speeds of a call, in bit/s (R1, R10); `none` of the spec is `Option.none`. -/
inductive Speed where
  | b110 | b150 | b300 | b600 | b1200
  deriving DecidableEq, Repr

/-- The parity of a call (R1, R11). -/
inductive Parity where
  | even | odd
  deriving DecidableEq, Repr

/-- The two phases of the ring detector (R4). -/
inductive DetectorPhase where
  | on | off
  deriving DecidableEq, Repr

/-- Which carrier interval is being timed (R8). -/
inductive CarrierTiming where
  | none | present | loss
  deriving DecidableEq, Repr

/-- What the receive input's space timing has shown (R23, R40): nothing judged, a pending break, or a long space. -/
inductive SpaceTiming where
  | none | breakPending | longSpace
  deriving DecidableEq, Repr

/-- Where a line goes when its guard time ends (R1, R16); RESTING keeps the retry period index chosen at the fault. -/
inductive Destination where
  | idle | resting (periodIndex : Nat) | latched
  deriving DecidableEq, Repr

/-- The five fault kinds (R51). -/
inductive FaultKind where
  | noCarrier | noSpeed | noise | longSpace | ringStuck
  deriving DecidableEq, Repr

/-- Why a call ended (R17). -/
inductive EndReason where
  | carrierLost | dropped | removed
  deriving DecidableEq, Repr

/-- A line event with its detail (R17). -/
inductive LineEvent where
  | answered
  | speedFound (speed : Speed) (parity : Parity)
  | callEnded (reason : EndReason)
  | fault (kind : FaultKind)
  | restored
  deriving DecidableEq, Repr

/-! ## Lines: the character fields (R23) -/

/-- The assembly modes (R23, R30, R31). -/
inductive AssemblyMode where
  | line | count
  deriving DecidableEq, Repr

/-- The status of a completed record (R30, R31). -/
inductive RecordStatus where
  | complete | full | exact | short | long
  deriving DecidableEq, Repr

/-- The assembly settings (R23): the input group without echo. The defaults are the call-start values. -/
structure AssemblySettings where
  mode : AssemblyMode := .line
  countN : Nat := 80
  endAtCount : Bool := false
  marking : Bool := false
  separator : Code := 47#7
  deriving DecidableEq, Repr

/-- The partial record (R23). The defaults are the empty partial record. -/
structure Partial where
  buffer : List Code := []
  marks : List Nat := []
  latch : Bool := false
  lengthRefusal : Bool := false
  deriving DecidableEq, Repr

/-- A completed record of a session: what its INPUT report will carry beside the session and line numbers (R37). -/
structure InputRecord where
  status : RecordStatus
  isBreak : Bool
  marks : List Nat
  text : List Code
  deriving DecidableEq, Repr

/-- A character of an output queue (R43). The final LF of a part message names the message, so that its sending can be
told (R44). -/
structure OutChar where
  code : Code
  ends : Option Slot := none
  deriving DecidableEq, Repr

/-! ## Lines: the dialogue record (R88) -/

/-- The dialogue phases (R88). -/
inductive Phase where
  | greeting | entry | waiting | farewell
  deriving DecidableEq, Repr

/-- The sign-on limit of a dialogue (R88, R99). -/
inductive SignOnLimit where
  | running (remaining : Nat) | paused (remaining : Nat) | stopped
  deriving DecidableEq, Repr

/-- A dialogue record (R88). -/
structure Dialogue where
  phase : Phase
  attempts : Nat
  limit : SignOnLimit
  account : Option Nat
  waitLimit : Option Nat
  deriving DecidableEq, Repr

/-- What holds a line: nothing, a dialogue of the Sign-On Unit, or the session its record names (R13, R112). -/
inductive Holder where
  | none | dialogue (d : Dialogue) | session (number : Nat)
  deriving DecidableEq, Repr

/-- The line record of one line port with its signals (R1, R23, R50, R88). The defaults are the power-up values; the
input levels and what is timed on them have none in the spec (log entry 3). -/
structure Line where
  /-- R2 -/
  state : LineState := .outOfService
  /-- R1: rings completed, 0–8 -/
  ringCount : Nat := 0
  /-- R4 -/
  phase : DetectorPhase := .on
  /-- R7 -/
  stuckHold : Bool := false
  /-- the ring indicate input: true while ring is present (R4) -/
  ringInput : Bool := false
  /-- the detector times the presence in progress (R4, R7) -/
  presenceTimed : Bool := false
  /-- the detector times the absence in progress, in the OFF phase (R4) -/
  absenceTimed : Bool := false
  /-- the abandon timer runs (R6) -/
  abandonRunning : Bool := false
  /-- the carrier detect input: true while carrier is present (R8) -/
  carrierInput : Bool := false
  /-- R8 -/
  carrierTiming : CarrierTiming := .none
  /-- R1 -/
  speed : Option Speed := none
  /-- R1 -/
  parity : Option Parity := none
  /-- R1, R12: 0–3 -/
  searchAttempts : Nat := 0
  /-- R12: the search waits for the settle interval -/
  settling : Bool := false
  /-- R20 -/
  parityCheck : Bool := true
  /-- R20 -/
  substitute : Bool := true
  /-- R20: 1–8 -/
  answerRingCount : Nat := 2
  /-- R1, R3: second marks left of the window the state runs -/
  window : Option Nat := none
  /-- R1, R16 -/
  destination : Destination := .idle
  /-- R17 -/
  lastEvent : Option LineEvent := none
  /-- R50: 0–15 -/
  retryCount : Nat := 0
  /-- R50: 0–62 -/
  noiseCount : Nat := 0
  /-- R50 -/
  noiseWindow : Option Nat := none
  /-- R13, R88, R112 -/
  holder : Holder := .none
  /-- R23 -/
  partialRecord : Partial := {}
  /-- R23, R37 -/
  waitingRecord : Option InputRecord := none
  /-- R23 -/
  echo : Bool := true
  /-- R23: the assembly settings in force -/
  settings : AssemblySettings := {}
  /-- R23, R48 -/
  pendingSettings : Option AssemblySettings := none
  /-- R23, R43: at most 256 -/
  output : List OutChar := []
  /-- R44: part messages whose final LF has left the queue and that have not been reported sent -/
  unreported : List Slot := []
  /-- R43: the bits of the character whose sending began last: start bit, data low-order first, parity, stop bits; empty
  while the output rests at mark -/
  transmit : List Bool := []
  /-- R43: fill NULs that are still to be sent before the next queued character -/
  fill : Nat := 0
  /-- R45, R46 -/
  drainWanted : Bool := false
  /-- R40 -/
  space : SpaceTiming := .none
  deriving DecidableEq, Repr

/-! ## Fault policies (R55) -/

/-- The policy modes (R55). -/
inductive PolicyMode where
  | latch | retry | report | ignore
  deriving DecidableEq, Repr

/-- One policy entry (R55); the noise limit is used by NOISE alone. -/
structure PolicyEntry where
  mode : PolicyMode
  periodIndex : Nat
  retryLimit : Nat
  noiseLimit : Nat
  deriving DecidableEq, Repr

/-- The fault policy table with its power-up values (R55). -/
structure PolicyTable where
  noCarrier : PolicyEntry := ⟨.report, 0, 0, 0⟩
  noSpeed : PolicyEntry := ⟨.report, 0, 0, 0⟩
  noise : PolicyEntry := ⟨.retry, 2, 3, 8⟩
  longSpace : PolicyEntry := ⟨.retry, 1, 3, 0⟩
  ringStuck : PolicyEntry := ⟨.latch, 0, 0, 0⟩
  deriving DecidableEq, Repr

/-! ## Accounts and classes (R69, R85) -/

/-- The lock state of an account (R69). -/
inductive LockState where
  | open | lockedTimed (seconds : Nat) | lockedHeld
  deriving DecidableEq, Repr

/-- An account record (R69). -/
structure Account where
  number : Nat
  classNo : Fin 4
  check : Nat
  balance : Nat
  limit : Nat
  active : Nat := 0
  failures : Nat := 0
  lock : LockState := .open
  lockRepeats : Nat := 0
  chargedTotal : Nat := 0
  deriving DecidableEq, Repr

/-- The lock policies of a class (R81, R85). -/
inductive LockPolicy where
  | off | report | timed | latch
  deriving DecidableEq, Repr

/-- A class record with its default values (R85). -/
structure ClassRecord where
  free : Bool := false
  surcharge : Bool := false
  minCharge : Nat := 0
  cap : Nat := 0
  grace : Nat := 60
  lowFunds : Nat := 10
  idleLimit : Nat := 15
  failureLimit : Nat := 5
  lockPolicy : LockPolicy := .timed
  lockPeriod : Nat := 1
  repeatLimit : Nat := 3
  holdTime : Nat := 120
  deriving DecidableEq, Repr

/-! ## Sessions (R111, R143) -/

/-- The session states (R111). -/
inductive SessionState where
  | open | stalled | held
  deriving DecidableEq, Repr

/-- A time of day (R128). -/
structure Time where
  day : Nat := 0
  minute : Nat := 0
  second : Nat := 0
  deriving DecidableEq, Repr

/-- The class snapshot of a session: the class number and its record (R87). -/
structure Snapshot where
  classNo : Fin 4
  record : ClassRecord
  deriving DecidableEq, Repr

/-- The meter part of a session record (R143), less funds warned and the two countdowns, which stand in the session. -/
structure Meter where
  rate : Nat
  multiplier : Nat
  acc : Nat := 0
  charged : Nat := 0
  debited : Nat := 0
  overrun : Nat := 0
  waived : Nat := 0
  capReached : Bool := false
  rounded : Bool := false
  minApplied : Bool := false
  deriving DecidableEq, Repr

/-- A session record (R111, R143). -/
structure Session where
  number : Nat
  account : Nat
  snapshot : Snapshot
  state : SessionState := .open
  boundLine : Option Port
  firstLine : Port
  lastLine : Port
  start : Time
  meter : Meter
  idle : Nat := 0
  idleWarned : Bool := false
  hold : Option Nat := none
  metered : Nat := 0
  stalled : Nat := 0
  heldSeconds : Nat := 0
  reattaches : Nat := 0
  fundsWarned : Bool := false
  grace : Option Nat := none
  countdown : Option Nat := none
  deriving DecidableEq, Repr

/-- The ten close causes (R122, R162). -/
inductive Cause where
  | hangup | lineFault | holdExpired | hostEnded | fundsExhausted | closedHours | idle | lineRemoved | hostLost | restart
  deriving DecidableEq, Repr

/-- The units and marks of a meter after finalization, as a bill record carries them (R161). -/
structure Charge where
  charged : Nat
  debited : Nat
  overrun : Nat
  waived : Nat
  capReached : Bool
  rounded : Bool
  minApplied : Bool
  deriving DecidableEq, Repr

/-- A bill record (R161). -/
structure Bill where
  session : Nat
  account : Nat
  classNo : Fin 4
  firstLine : Port
  lastLine : Port
  start : Time
  finish : Time
  metered : Nat
  stalled : Nat
  heldSeconds : Nat
  meter : Charge
  reattaches : Nat
  cause : Cause
  deriving DecidableEq, Repr

/-! ## The Tariff Unit (R128, R131, R139) -/

/-- A rate of a class: CU per hour, or CLOSED (R131). -/
inductive Rate where
  | open (cu : Nat) | closed
  deriving DecidableEq, Repr

/-- A used tariff entry (R131): bit d of `days` stands for day d. An empty entry is `none` in the table. -/
structure TariffEntry where
  days : BitVec 7
  start : Nat
  rates : Vector Rate 4
  deriving DecidableEq, Repr

/-- A tariff table of 16 entries (R131). -/
abbrev TariffTable := Vector (Option TariffEntry) 16

/-- A pending commit (R135). -/
inductive Commit where
  | none | nextMinute | at (target : Nat) (wrapAwaited : Bool)
  deriving DecidableEq, Repr

/-- What period selection found (R137): the current entry's index and the current rates. -/
structure Period where
  index : Nat
  rates : Vector Rate 4
  deriving DecidableEq, Repr

/-- The load steps with their power-up values (R139). -/
structure LoadSteps where
  t1 : Nat := 12
  t2 : Nat := 20
  t3 : Nat := 28
  h : Nat := 2
  m0 : Nat := 16
  m1 : Nat := 20
  m2 : Nat := 24
  m3 : Nat := 32
  deriving DecidableEq, Repr

/-- The Tariff Unit with its power-up values. Slots in use U is not stored: it is the number of session records (R139). -/
structure Tariff where
  /-- R128 -/
  clockValid : Bool := false
  /-- R128; while the clock is invalid it has no meaning (log entry 4) -/
  clock : Time := {}
  /-- R131 -/
  active : TariffTable := Vector.replicate 16 none
  /-- R131 -/
  standby : TariffTable := Vector.replicate 16 none
  /-- R131 -/
  activePresent : Bool := false
  /-- R135 -/
  commit : Commit := .none
  /-- R137; absent until the first selection -/
  period : Option Period := none
  /-- R139 -/
  steps : LoadSteps := {}
  /-- R139: 0–3 -/
  band : Nat := 0
  deriving DecidableEq, Repr

/-! ## The Link Controller (chapter 10) -/

/-- The reply codes, with their numbers in R168. -/
inductive ReplyCode where
  | done | clamped | busy | notReady | badValue | notFound | inUse | full | held | empty | check | unknown | duplicate
  | incomplete
  deriving DecidableEq, Repr

/-- A reply: the order kind it answers, its code and its data (R168, 11.4). -/
structure Reply where
  kind : Byte
  code : ReplyCode
  data : List Byte
  deriving DecidableEq, Repr

/-- A complete inbound frame (R166), as the held order keeps it (R167). -/
structure Frame where
  kind : Byte
  body : List Byte
  check : Byte
  deriving DecidableEq, Repr

/-- The inbound assembler (R167): hunting, or a frame in assembly with the bytes taken so far. -/
inductive Assembler where
  | hunting | inFrame (taken : List Byte)
  deriving DecidableEq, Repr

/-- Why a session was held (R116). -/
inductive HeldReason where
  | carrierLost | lineFault
  deriving DecidableEq, Repr

/-- The reports (R171, 11.5), each with the values its body carries after the lost flag. -/
inductive Report where
  | lineEvent (line : Port) (event : LineEvent)
  | input (session : Nat) (line : Port) (record : InputRecord)
  | sessionOpened (session : Nat) (line : Port) (account : Nat) (classNo : Fin 4)
  | sessionHeld (session account : Nat) (line : Port) (reason : HeldReason) (hold : Nat)
  | sessionResumed (session account : Nat) (line : Port)
  | sessionClosed (session account : Nat) (line : Option Port) (cause : Cause)
  | fundsLow (session account : Nat) (line : Option Port) (balance : Nat)
  | accountLocked (account : Nat) (line : Port) (wouldLock : Bool) (lock : LockState) (repeats : Nat)
  | drained (session : Nat) (line : Port)
  | billsWaiting (records : Nat)
  | tariffSwitched (clock : Time) (period : Period)
  | loadBand (before after slots multiplier : Nat)
  | linkRestored (secondsDown : Nat) (expired : Bool)
  deriving DecidableEq, Repr

/-- The line-event enables (R172), all enabled at power-up. -/
structure Enables where
  answered : Bool := true
  speedFound : Bool := true
  callEnded : Bool := true
  fault : Bool := true
  restored : Bool := true
  deriving DecidableEq, Repr

/-- The ten limits of SET LIMITS with their defaults (R173). -/
structure Limits where
  answerWindow : Nat := 20
  speedWindow : Nat := 30
  signOn : Nat := 120
  attempts : Nat := 3
  wait : Nat := 5
  hostSlots : Nat := 32
  linkTimeout : Nat := 0
  hostDown : Nat := 10
  noiseWindow : Nat := 10
  deglitch : Nat := 2
  deriving DecidableEq, Repr

/-- The host state (R175). -/
inductive HostState where
  | up | down
  deriving DecidableEq, Repr

/-- The Link Controller with its power-up values (chapter 10's opening table, R180). -/
structure Link where
  /-- R167 -/
  assembler : Assembler := .hunting
  /-- R167 -/
  heldOrder : Option Frame := none
  /-- R168, R170 -/
  replyPath : Option Reply := none
  /-- R170: the frame whose sending began last; empty before any -/
  sending : List Byte := []
  /-- R171: at most 64, the head first -/
  reports : List Report := []
  /-- R171 -/
  lost : Bool := false
  /-- R172 -/
  enables : Enables := {}
  /-- R175 -/
  host : HostState := .up
  /-- R175: the link timeout runs -/
  timeoutRunning : Bool := false
  /-- R176 -/
  downRemaining : Option Nat := none
  /-- R176 -/
  secondsDown : Nat := 0
  /-- R176 -/
  downExpired : Bool := false
  /-- R173 -/
  limits : Limits := {}
  deriving DecidableEq, Repr

/-! ## The machine -/

/-- Seven-bit codes from their numbers. -/
def codes (ns : List Nat) : List Code := ns.map (BitVec.ofNat 7)

/-- The default texts of the message table (R90). -/
def defaultMessages : Vector (List Code) 14 := #v[
  /- 0 BANNER: `CAMPUS COMPUTING - SIGN ON` -/
  codes [67, 65, 77, 80, 85, 83, 32, 67, 79, 77, 80, 85, 84, 73, 78, 71, 32, 45, 32, 83, 73, 71, 78, 32, 79, 78],
  /- 1 PROMPT: `ACCOUNT/PASSWORD:` -/
  codes [65, 67, 67, 79, 85, 78, 84, 47, 80, 65, 83, 83, 87, 79, 82, 68, 58],
  /- 2 NOT ACCEPTED: `NOT ACCEPTED` -/
  codes [78, 79, 84, 32, 65, 67, 67, 69, 80, 84, 69, 68],
  /- 3 SUSPENDED: `ACCOUNT SUSPENDED` -/
  codes [65, 67, 67, 79, 85, 78, 84, 32, 83, 85, 83, 80, 69, 78, 68, 69, 68],
  /- 4 NOT AT THIS HOUR: `NOT AVAILABLE AT THIS HOUR` -/
  codes [78, 79, 84, 32, 65, 86, 65, 73, 76, 65, 66, 76, 69, 32, 65, 84, 32, 84, 72, 73, 83, 32, 72, 79, 85, 82],
  /- 5 NO FUNDS: `NO FUNDS` -/
  codes [78, 79, 32, 70, 85, 78, 68, 83],
  /- 6 LIMIT: `SESSION LIMIT REACHED` -/
  codes [83, 69, 83, 83, 73, 79, 78, 32, 76, 73, 77, 73, 84, 32, 82, 69, 65, 67, 72, 69, 68],
  /- 7 PLEASE WAIT: `SYSTEM FULL - PLEASE WAIT` -/
  codes [83, 89, 83, 84, 69, 77, 32, 70, 85, 76, 76, 32, 45, 32, 80, 76, 69, 65, 83, 69, 32, 87, 65, 73, 84],
  /- 8 NOT AVAILABLE: `SYSTEM NOT AVAILABLE` -/
  codes [83, 89, 83, 84, 69, 77, 32, 78, 79, 84, 32, 65, 86, 65, 73, 76, 65, 66, 76, 69],
  /- 9 FUNDS LOW: `FUNDS LOW` -/
  codes [70, 85, 78, 68, 83, 32, 76, 79, 87],
  /- 10 IDLE WARNING: `IDLE - SIGN OFF IN 1 MINUTE` -/
  codes [73, 68, 76, 69, 32, 45, 32, 83, 73, 71, 78, 32, 79, 70, 70, 32, 73, 78, 32, 49, 32, 77, 73, 78, 85, 84, 69],
  /- 11 CLOSING: `SERVICE CLOSING` -/
  codes [83, 69, 82, 86, 73, 67, 69, 32, 67, 76, 79, 83, 73, 78, 71],
  /- 12 RESUMED: `SESSION RESUMED` -/
  codes [83, 69, 83, 83, 73, 79, 78, 32, 82, 69, 83, 85, 77, 69, 68],
  /- 13 GOODBYE: `GOODBYE` -/
  codes [71, 79, 79, 68, 66, 89, 69]]

/-- The state of the ZL32. The defaults are the power-up values (R1, R23, R50, R55, R68, R85, R88, R90, R102, R111, R127,
R128, R131, R139, R143, R159, R180). -/
structure State where
  /-- the 32 line records (R1, R23, R50, R88) -/
  lines : Vector Line 32 := Vector.replicate 32 {}
  /-- the fault policy table (R55) -/
  policies : PolicyTable := {}
  /-- the account table, in ascending order of account number (R68) -/
  accounts : List Account := []
  /-- the class table (R85) -/
  classes : Vector ClassRecord 4 := Vector.replicate 4 {}
  /-- the message table (R90) -/
  messages : Vector (List Code) 14 := defaultMessages
  /-- the wait queue, its head first (R102) -/
  waitQueue : List Port := []
  /-- the input wait list, its head first (R37) -/
  inputWait : List Port := []
  /-- the session records (R111), in the order of admission -/
  sessions : List Session := []
  /-- the next-number counter (R113) -/
  nextNumber : Nat := 1
  /-- the Tariff Unit (chapter 7) -/
  tariff : Tariff := {}
  /-- the bill records, the head first (R159) -/
  bills : List Bill := []
  /-- the Link Controller (chapter 10) -/
  link : Link := {}
  /-- THE MODEL's own: how many free orders have been drawn (log entry 2) -/
  draws : Nat := 0
  /-- the commands that wait, first in, first out -/
  pending : List Instr := []
  deriving DecidableEq, Repr

/-- The machine right after power-up, with no command waiting. -/
def State.reset : State := {}

/-- No command of this block stops the machine: the spec gives every command an effect in every state (log entry 5), so
no fault has a name. -/
inductive Fault where
  deriving DecidableEq, Repr

/-- Why a command is refused. -/
inductive Refusal where
  /-- Raised by exec's arm of a command that has no meaning yet; none is left. Safe: the machine stops. -/
  | notModelled (mnemonic : String)
  deriving DecidableEq, Repr

end Sys2Proof.Machine
end

