-- ==== Sys2Proof/Machine/Operands.lean ====
section
/-! DEFINITION. Operand forms: how numbers stand in a frame body (11.1), how a measured width gives a speed (R10), how a
character's parity is judged (R25) and how long the indexed times are. Pure functions, no state. -/

namespace Sys2Proof.Machine

/-! ## Numbers and texts in a body (11.1) -/

/-- The unsigned number of some bytes, most significant first (11.1). -/
def beNat (bs : List Byte) : Nat := bs.foldl (fun a b => a * 256 + b.toNat) 0

/-- A number in `k` bytes, most significant first (11.1). -/
def beBytes : Nat → Nat → List Byte
  | 0, _ => []
  | k + 1, v => BitVec.ofNat 8 (v / 256 ^ k) :: beBytes k v

/-- A four-byte signed amount, two's complement (11.1). -/
def beSigned (bs : List Byte) : Int :=
  if beNat bs < 2 ^ 31 then (beNat bs : Int) else (beNat bs : Int) - 2 ^ 32

/-- A flag byte: 0 or 1, and nothing else (11.1, R181). -/
def readFlag (b : Byte) : Option Bool :=
  if b = 0#8 then some false else if b = 1#8 then some true else none

/-- The line number of an order, 0 to 31 (11.1). -/
def readLine (b : Byte) : Option Port :=
  if h : b.toNat < 32 then some ⟨b.toNat, h⟩ else none

/-- The characters of a text, none if a byte is above 127 (R181). -/
def readText (bs : List Byte) : Option (List Code) :=
  if bs.all (fun b => b.toNat < 128) then some (bs.map (BitVec.setWidth 7)) else none

/-- A character as a byte (11.1). -/
def codeByte (c : Code) : Byte := BitVec.setWidth 8 c

/-- A value brought to the nearest bound of its range (R169). -/
def clampTo (lo hi v : Nat) : Nat := if v < lo then lo else if hi < v then hi else v

/-- A count that rests at its upper bound (R111). -/
def restAt (top v : Nat) : Nat := min top v

/-! ## Line characters -/

/-- Bell; this and the next give the codes the chapters name (manual, Abbreviations). -/
abbrev chBel : Code := 7#7
/-- Backspace. -/
abbrev chBs : Code := 8#7
/-- Horizontal tab. -/
abbrev chTab : Code := 9#7
/-- Line feed. -/
abbrev chLf : Code := 10#7
/-- Carriage return. -/
abbrev chCr : Code := 13#7
/-- NUL, the character of fill (R43). -/
abbrev chNul : Code := 0#7
/-- Cancel, the kill key. -/
abbrev chCan : Code := 24#7
/-- Delete. -/
abbrev chDel : Code := 127#7
/-- The system separator, a solidus (R36). -/
abbrev systemSeparator : Code := 47#7
/-- The substitute for an error character, an asterisk (R25). -/
abbrev substituteCode : Code := 42#7
/-- The masking echo, X (R29). -/
abbrev maskCode : Code := 88#7

/-- Whether the seven data bits hold an odd number of one bits. -/
def oddOnes (c : Code) : Bool := (List.range 7).foldl (fun a i => a != c.getLsbD i) false

/-- The parity bit that makes the eight bits agree with the line's parity (R25, R43). -/
def parityBitFor (p : Parity) (c : Code) : Bool :=
  match p with
  | .even => oddOnes c
  | .odd => !oddOnes c

/-- Parity error of a received character (R25). -/
def parityError (p : Parity) (c : Code) (bit : Bool) : Bool := bit != parityBitFor p c

/-! ## Speeds (R10, R43) -/

/-- The nominal bit time in microseconds (R10). -/
def Speed.bitTime : Speed → Nat
  | .b110 => 9091 | .b150 => 6667 | .b300 => 3333 | .b600 => 1667 | .b1200 => 833

/-- The accept window: the nominal bit time plus or minus one eighth of it, truncated (R10). -/
def Speed.accepts (sp : Speed) (w : Nat) : Bool :=
  decide (sp.bitTime - sp.bitTime / 8 ≤ w) && decide (w ≤ sp.bitTime + sp.bitTime / 8)

/-- The speed whose accept window holds the width, if one does (R10). -/
def matchSpeed (w : Nat) : Option Speed :=
  [Speed.b110, .b150, .b300, .b600, .b1200].find? (fun sp => sp.accepts w)

/-- The stop bits of a speed (R10). -/
def Speed.stopBits : Speed → Nat
  | .b110 => 2 | _ => 1

/-- The fill NULs after a CR (R43). -/
def Speed.fillCount : Speed → Nat
  | .b110 => 0 | .b150 => 0 | .b300 => 1 | .b600 => 2 | .b1200 => 4

/-- The bits of a character on the transmit data output: start bit, seven data bits low-order first, parity bit, stop
bits (R43). True is mark. -/
def sentBits (sp : Speed) (p : Parity) (c : Code) : List Bool :=
  false :: (List.range 7).map (fun i => c.getLsbD i) ++ parityBitFor p c :: List.replicate sp.stopBits true

/-- The parity that the eighth bit of the search's CR shows (R11). -/
def searchParity (eighth : Bool) : Parity := if eighth then .even else .odd

/-! ## Indexed times -/

/-- The retry period of an index, in second marks (R55). -/
def retryPeriod (i : Nat) : Nat :=
  ([10, 30, 60, 120, 300, 600, 1200, 1800] : List Nat).getD i 1800

/-- The lock period of an index, in seconds (R81). -/
def lockPeriodSeconds (i : Nat) : Nat :=
  ([60, 300, 900, 1800, 3600, 7200, 14400] : List Nat).getD i 14400

/-- The carrier loss deglitch time of an index, in milliseconds (R8). The part times it on the signal; the model is told
of its end by CARRIER_QUALIFIED_LOST (log entry 6). -/
def deglitchMs (i : Nat) : Nat :=
  ([100, 200, 400, 800, 1600] : List Nat).getD i 1600

/-- The minute of the week (R128). -/
def Time.minuteOfWeek (t : Time) : Nat := t.day * 1440 + t.minute

/-! ## Passwords (R70) -/

/-- The check value of a password (R70). -/
def checkValue (pw : List Code) : Nat := pw.foldl (fun v c => (v * 31 + c.toNat) % 65521) 1

/-! ## Records by number -/

/-- The list with its first thing of a kind changed: a table's record by its key, which no two records share. -/
def changeFirst {α : Type} (is : α → Bool) (f : α → α) : List α → List α
  | [] => []
  | x :: rest => if is x then f x :: rest else x :: changeFirst is f rest

/-! ## Free orders -/

/-- The things of a list in the order the keys give. Every order of the list is the result for some keys; one thing alone
needs no key (log entry 2). -/
def permute {α : Type} (key : Nat → Nat) : List α → List α
  | [] => []
  | [x] => [x]
  | x :: y :: rest => (permute key (y :: rest)).insertIdx (key (rest.length + 1) % (rest.length + 2)) x

/-- A list cut behind its first `k` things; nothing needs no place (log entry 2). -/
def cut {α : Type} : List α → Nat → List α × List α
  | [], _ => ([], [])
  | x :: xs, 0 => ([], x :: xs)
  | x :: xs, k + 1 => (x :: (cut xs k).1, (cut xs k).2)

end Sys2Proof.Machine
end

