-- ==== Sys2Proof/Machine/Assembly.lean ====
section
/-! DEFINITION. Record assembly (2.3 to 2.5): what one character does to a partial record under some assembly settings, and
what is echoed. Pure functions, no state. -/

namespace Sys2Proof.Machine

/-- What a character did: the partial record after it, the echo that echo OFF suppresses, whether BEL is sent whatever the
echo setting, and the completed record's status where the record ended (R28). -/
structure Assembled where
  rest : Partial
  echo : List Code := []
  bell : Bool := false
  ended : Option RecordStatus := none
  deriving DecidableEq, Repr

/-- The fixed sign-on settings (R36). -/
def signOnSettings : AssemblySettings :=
  { mode := .line, countN := 80, endAtCount := false, marking := true, separator := systemSeparator }

/-- The characters that fit in a record: 128 in LINE mode (R30), N in COUNT mode (R31). -/
def AssemblySettings.room (a : AssemblySettings) : Nat :=
  match a.mode with
  | .line => Config.bufferLength
  | .count => a.countN

/-- The status of a record ended by CR (R30, R31). -/
def AssemblySettings.statusAtReturn (a : AssemblySettings) (q : Partial) : RecordStatus :=
  match a.mode with
  | .line => if q.lengthRefusal then .full else .complete
  | .count => if q.lengthRefusal then .long else if q.buffer.length = a.countN then .exact else .short

/-- The status of a break record: that of a CR on an empty record (R41). -/
def AssemblySettings.breakStatus (a : AssemblySettings) : RecordStatus :=
  match a.mode with
  | .line => .complete
  | .count => .short

/-- The echo of a stored character or of a separator that sets the latch: itself, or X where masking is in force and the
record holds a field mark (R28, R29). -/
def echoOf (mask : Bool) (q : Partial) (c : Code) : Code := if mask && !q.marks.isEmpty then maskCode else c

/-- CR ends the record; with field marking on and the latch set, an empty field is marked at its end (R30, R31, R33). -/
def Partial.atReturn (q : Partial) (a : AssemblySettings) : Assembled :=
  { rest := if a.marking && q.latch then { q with marks := q.marks ++ [q.buffer.length], latch := false } else q,
    echo := [chCr, chLf], ended := some (a.statusAtReturn q) }

/-- An erase: of the latch, of the last stored character with its mark, or refused (R34). -/
def Partial.erase (q : Partial) : Assembled :=
  if q.latch then { rest := { q with latch := false }, echo := [chBs, 32#7, chBs] }
  else if q.buffer = [] then { rest := q, bell := true }
  else
    { rest := { q with buffer := q.buffer.dropLast, marks := q.marks.filter (· ≠ q.buffer.length - 1) },
      echo := [chBs, 32#7, chBs] }

/-- Whether the separator and the latch are consulted: field marking on and fewer than 8 marks (R32). -/
def Partial.separates (q : Partial) (a : AssemblySettings) : Bool :=
  a.marking && decide (q.marks.length < Config.maxMarks)

/-- A character that would be stored: refused for length, or stored, with a mark where the latch was set for it; in COUNT
mode with end-at-count the Nth ends the record (R30, R31, R32). -/
def Partial.store (q : Partial) (a : AssemblySettings) (mask : Bool) (c : Code) : Assembled :=
  if a.room ≤ q.buffer.length then { rest := { q with lengthRefusal := true }, bell := true }
  else
    let marked := q.separates a && q.latch && c != a.separator
    let q1 : Partial :=
      { q with buffer := q.buffer ++ [c], marks := if marked then q.marks ++ [q.buffer.length] else q.marks, latch := false }
    { rest := q1, echo := [echoOf mask q1 c],
      ended := if a.mode = .count ∧ a.endAtCount = true ∧ q1.buffer.length = a.countN then some .exact else none }

/-- One character assembled under some settings (R27 to R35). -/
def Partial.assemble (q : Partial) (a : AssemblySettings) (mask : Bool) (c : Code) : Assembled :=
  if c = chCr then q.atReturn a
  else if c = chBs ∨ c = chDel then q.erase
  else if c = chCan then { rest := {}, echo := [94#7, 88#7, chCr, chLf] }
  else if c ≠ chTab ∧ c.toNat < 32 then { rest := q }
  else if q.separates a = true ∧ c = a.separator ∧ q.latch = false then
    { rest := { q with latch := true }, echo := [echoOf mask q c] }
  else q.store a mask c

end Sys2Proof.Machine
end

