-- ==== Sys2Proof/Machine/Flags.lean ====
section
/-! DEFINITION. The enumeration codes and flag bytes of the host link (11.1), each as the table gives it, and the readers of
those that an order carries. -/

namespace Sys2Proof.Machine

/-- A flag as a byte (11.1). -/
def flagByte (b : Bool) : Byte := if b then 1#8 else 0#8

def LineState.code : LineState → Nat
  | .outOfService => 0 | .idle => 1 | .ringing => 2 | .answering => 3 | .searching => 4
  | .connected => 5 | .dropping => 6 | .guard => 7 | .resting => 8 | .latched => 9

def speedCode : Option Speed → Nat
  | none => 0 | some .b110 => 1 | some .b150 => 2 | some .b300 => 3 | some .b600 => 4 | some .b1200 => 5

def parityCode : Option Parity → Nat
  | none => 0 | some .even => 1 | some .odd => 2

/-- The window a state runs (R1, 11.1). -/
def LineState.windowCode : LineState → Nat
  | .answering => 1 | .searching => 2 | .dropping => 3 | .guard => 4 | .resting => 5 | _ => 0

def Destination.code : Destination → Nat
  | .idle => 0 | .resting _ => 1 | .latched => 2

def Destination.periodIndex : Destination → Nat
  | .resting i => i | _ => 0

def EndReason.code : EndReason → Nat
  | .carrierLost => 0 | .dropped => 1 | .removed => 2

def FaultKind.code : FaultKind → Nat
  | .noCarrier => 0 | .noSpeed => 1 | .noise => 2 | .longSpace => 3 | .ringStuck => 4

def LineEvent.code : LineEvent → Nat
  | .answered => 1 | .speedFound _ _ => 2 | .callEnded _ => 3 | .fault _ => 4 | .restored => 5

/-- The two detail bytes of a line event (11.4). -/
def LineEvent.detail : LineEvent → Nat × Nat
  | .speedFound sp p => (speedCode (some sp), parityCode (some p))
  | .callEnded r => (r.code, 0)
  | .fault k => (k.code, 0)
  | _ => (0, 0)

def PolicyMode.code : PolicyMode → Nat
  | .latch => 0 | .retry => 1 | .report => 2 | .ignore => 3

def LockPolicy.code : LockPolicy → Nat
  | .off => 0 | .report => 1 | .timed => 2 | .latch => 3

def LockState.code : LockState → Nat
  | .open => 0 | .lockedTimed _ => 1 | .lockedHeld => 2

/-- The seconds remaining, 0 unless LOCKED-TIMED (11.4). -/
def LockState.seconds : LockState → Nat
  | .lockedTimed n => n | _ => 0

def SessionState.code : SessionState → Nat
  | .open => 0 | .stalled => 1 | .held => 2

def Holder.code : Holder → Nat
  | .none => 0 | .dialogue _ => 1 | .session _ => 2

def Phase.code : Phase → Nat
  | .greeting => 1 | .entry => 2 | .waiting => 3 | .farewell => 4

def RecordStatus.code : RecordStatus → Nat
  | .complete => 0 | .full => 1 | .exact => 2 | .short => 3 | .long => 4

def AssemblyMode.code : AssemblyMode → Nat
  | .line => 0 | .count => 1

def Commit.code : Commit → Nat
  | .none => 0 | .nextMinute => 1 | .at _ _ => 2

def Cause.code : Cause → Nat
  | .hangup => 0 | .lineFault => 1 | .holdExpired => 2 | .hostEnded => 3 | .fundsExhausted => 4
  | .closedHours => 5 | .idle => 6 | .lineRemoved => 7 | .hostLost => 8 | .restart => 9

def HeldReason.code : HeldReason → Nat
  | .carrierLost => 0 | .lineFault => 1

/-- The number of a reply code (R168). -/
def ReplyCode.number : ReplyCode → Nat
  | .done => 0 | .clamped => 1 | .busy => 2 | .notReady => 3 | .badValue => 4 | .notFound => 5 | .inUse => 6
  | .full => 7 | .held => 8 | .empty => 9 | .check => 10 | .unknown => 11 | .duplicate => 12 | .incomplete => 13

/-- A rate in two bytes' worth: 4,095 is CLOSED (11.1). -/
def Rate.code : Rate → Nat
  | .open cu => cu | .closed => 4095

/-- The rate of a code, 4,095 being CLOSED (R131). -/
def readRate (v : Nat) : Rate := if v = 4095 then .closed else .open v

/-- What a bill record carries of a meter: its units and its marks, and not the latched rate, the multiplier or the
accumulator (R161). -/
def Meter.charge (m : Meter) : Charge :=
  ⟨m.charged, m.debited, m.overrun, m.waived, m.capReached, m.rounded, m.minApplied⟩

/-- The meter flags of a bill record: 1 cap reached, 2 rounding applied, 4 minimum applied (11.1). -/
def Charge.flags (m : Charge) : Nat :=
  (if m.capReached then 1 else 0) + (if m.rounded then 2 else 0) + (if m.minApplied then 4 else 0)

/-- The meter flags of a session record: those of a bill, and 8 funds warned (11.1). -/
def Session.meterFlags (x : Session) : Nat := x.meter.charge.flags + (if x.fundsWarned then 8 else 0)

/-! ## Enumerations read from an order (R181: a code the tables do not list is refused) -/

def readFaultKind (b : Byte) : Option FaultKind :=
  match b.toNat with
  | 0 => some .noCarrier | 1 => some .noSpeed | 2 => some .noise | 3 => some .longSpace | 4 => some .ringStuck
  | _ => none

def readPolicyMode (b : Byte) : Option PolicyMode :=
  match b.toNat with
  | 0 => some .latch | 1 => some .retry | 2 => some .report | 3 => some .ignore | _ => none

def readLockPolicy (b : Byte) : Option LockPolicy :=
  match b.toNat with
  | 0 => some .off | 1 => some .report | 2 => some .timed | 3 => some .latch | _ => none

def readAssemblyMode (b : Byte) : Option AssemblyMode :=
  match b.toNat with
  | 0 => some .line | 1 => some .count | _ => none

/-- The class number of an order, 0 to 3. -/
def readClass (b : Byte) : Option (Fin 4) :=
  if h : b.toNat < 4 then some ⟨b.toNat, h⟩ else none

/-- Whether the line is off hook, which drives its Off-hook output (R2). -/
def LineState.offHook : LineState → Bool
  | .answering => true | .searching => true | .connected => true | .dropping => true | _ => false

/-- Whether the ring indicate input is watched (R2). -/
def LineState.watchesRing : LineState → Bool
  | .idle => true | .ringing => true | _ => false

end Sys2Proof.Machine
end

