-- ==== Sys2Proof/Machine/Ops.lean ====
section
/-! DEFINITION. The named operations on the state that every block shares: reading and writing a line, a session, an
account; queueing a report; raising a line event; an output queue; a record's way to the host; going on hook and the two
drops; drawing a free order. Each cites the rule it follows. -/

namespace Sys2Proof.Machine

/-! ## Lines -/

/-- The record of a line. -/
def State.line (s : State) (p : Port) : Line := s.lines[p]

/-- The state with one line's record replaced. -/
def State.setLine (s : State) (p : Port) (l : Line) : State := { s with lines := s.lines.set p l }

/-- The state with one line's record changed. -/
def State.mapLine (s : State) (p : Port) (f : Line → Line) : State := s.setLine p (f (s.line p))

/-- The limits in force (R173). -/
def State.limits (s : State) : Limits := s.link.limits

/-! ## Reports and line events -/

/-- A status report is queued when an entry is free; otherwise it is dropped and the lost flag set (R171). -/
def State.queueReport (s : State) (r : Report) : State :=
  if s.link.reports.length < Config.reportEntries then
    { s with link := { s.link with reports := s.link.reports ++ [r] } }
  else { s with link := { s.link with lost := true } }

/-- Whether a line event's kind is enabled (R172). -/
def Enables.allows (e : Enables) : LineEvent → Bool
  | .answered => e.answered | .speedFound _ _ => e.speedFound | .callEnded _ => e.callEnded
  | .fault _ => e.fault | .restored => e.restored

/-- A line event is raised: it is written into the line's last event, and queued if its kind is enabled (R17, R172). -/
def State.raiseEvent (s : State) (p : Port) (e : LineEvent) : State :=
  let s1 := s.mapLine p (fun l => { l with lastEvent := some e })
  if s.link.enables.allows e then s1.queueReport (.lineEvent p e) else s1

/-! ## Sessions and accounts -/

/-- The session record of a number (R111). -/
def State.findSession (s : State) (n : Nat) : Option Session := s.sessions.find? (fun x => x.number == n)

/-- The state with the session record of a number changed. -/
def State.mapSession (s : State) (n : Nat) (f : Session → Session) : State :=
  { s with sessions := changeFirst (fun x => x.number == n) f s.sessions }

/-- Slots in use U: the number of session records (R112, R139). -/
def State.slotsInUse (s : State) : Nat := s.sessions.length

/-- The account record of a number (R68). -/
def State.findAccount (s : State) (a : Nat) : Option Account := s.accounts.find? (fun x => x.number == a)

/-- The state with the account record of a number changed. -/
def State.mapAccount (s : State) (a : Nat) (f : Account → Account) : State :=
  { s with accounts := changeFirst (fun x => x.number == a) f s.accounts }

/-- The balance of an account; 0 where there is no such record, which R76 keeps from a session's account. -/
def State.balanceOf (s : State) (a : Nat) : Nat := ((s.findAccount a).map (·.balance)).getD 0

/-- The session a line's record names, if it names one (R112). -/
def Line.session (l : Line) : Option Nat :=
  match l.holder with
  | .session n => some n | _ => none

/-- The dialogue a line has, if it has one (R88). -/
def Line.dialogue (l : Line) : Option Dialogue :=
  match l.holder with
  | .dialogue d => some d | _ => none

/-- A session is bound to a line (R112). -/
def State.boundLine (s : State) (n : Nat) : Option Port := (s.findSession n).bind (·.boundLine)

/-! ## The output queue -/

/-- DRAINED is due when the queue's length has fallen to 64 or less with drain-wanted set (R46). -/
def State.drainedTest (s : State) (p : Port) : State :=
  let l := s.line p
  if l.drainWanted ∧ l.output.length ≤ Config.drainedLevel then
    match l.holder with
    | .session n => (s.setLine p { l with drainWanted := false }).queueReport (.drained n p)
    | _ => s
  else s

/-- The output queue of a line is discarded (R47), and a discard that lowers its length meets R46. -/
def State.discardOutput (s : State) (p : Port) : State :=
  let s1 := s.mapLine p (fun l => { l with output := [], unreported := [], fill := 0 })
  if (s.line p).output = [] then s1 else s1.drainedTest p

/-- An echo joins the queue whole, or is dropped (R28, R44). -/
def State.appendEcho (s : State) (p : Port) (cs : List Code) : State :=
  let l := s.line p
  if l.output.length + cs.length ≤ Config.outputPlaces then
    s.setLine p { l with output := l.output ++ cs.map (fun c => { code := c }) }
  else s

/-- BEL, sent whatever the echo setting (R26, R28). -/
def State.sendBel (s : State) (p : Port) : State := s.appendEcho p [chBel]

/-- The slots of the message table by their messages (R90). -/
abbrev slotBanner : Slot := 0
abbrev slotPrompt : Slot := 1
abbrev slotNotAccepted : Slot := 2
abbrev slotSuspended : Slot := 3
abbrev slotNotAtThisHour : Slot := 4
abbrev slotNoFunds : Slot := 5
abbrev slotLimit : Slot := 6
abbrev slotPleaseWait : Slot := 7
abbrev slotNotAvailable : Slot := 8
abbrev slotFundsLow : Slot := 9
abbrev slotIdleWarning : Slot := 10
abbrev slotClosing : Slot := 11
abbrev slotResumed : Slot := 12
abbrev slotGoodbye : Slot := 13

/-- The characters of a part message: the slot's text, CR, and the LF that ends it (R44, R90). -/
def messageChars (text : List Code) (slot : Slot) : List OutChar :=
  text.map (fun c => { code := c }) ++ [{ code := chCr }, { code := chLf, ends := some slot }]

/-- A part message is queued on a line: it joins whole, or is discarded whole (R44, R90). -/
def State.queueMessage (s : State) (p : Port) (slot : Slot) : State :=
  let l := s.line p
  let text := messageChars s.messages[slot] slot
  if l.output.length + text.length ≤ Config.outputPlaces then
    s.setLine p { l with output := l.output ++ text }
  else s

/-- A message for a session's bound line; a session that has none gets none. -/
def State.queueMessageTo (s : State) (port : Option Port) (slot : Slot) : State :=
  match port with
  | some p => s.queueMessage p slot
  | none => s

/-! ## Completed records -/

/-- Pending assembly settings take effect (R48). -/
def Line.applyPending (l : Line) : Line :=
  { l with settings := l.pendingSettings.getD l.settings, pendingSettings := none }

/-- A line's waiting record leaves it, queued or discarded; with an empty partial record, pending settings take effect
(R38, R39, R48). -/
def Line.clearWaiting (l : Line) : Line :=
  if l.partialRecord = {} then { l with waitingRecord := none }.applyPending else { l with waitingRecord := none }

/-- A completed record of a session goes to the report queue when the input wait list is empty and 16 entries are free, and
otherwise becomes the line's waiting record, the line joining the list (R37). -/
def State.offerRecord (s : State) (p : Port) (n : Nat) (r : InputRecord) : State :=
  if s.inputWait = [] ∧ s.link.reports.length + Config.inputReserve ≤ Config.reportEntries then
    { s with link := { s.link with reports := s.link.reports ++ [.input n p r] } }
  else
    { (s.mapLine p (fun l => { l with waitingRecord := some r })) with inputWait := s.inputWait ++ [p] }

/-- The input wait list is looked at after an entry became free (R38): while 16 entries are free, the head line's record
is queued under the number its session has now, and pending settings held behind it take effect (R48). -/
def State.releaseInput : State → List Port → State
  | s, [] => s
  | s, p :: rest =>
    if s.link.reports.length + Config.inputReserve ≤ Config.reportEntries then
      let l := s.line p
      let s1 := { (s.setLine p l.clearWaiting) with inputWait := rest }
      match l.waitingRecord, l.holder with
      | some r, .session n =>
        releaseInput { s1 with link := { s1.link with reports := s1.link.reports ++ [.input n p r] } } rest
      | _, _ => releaseInput s1 rest
    else s

/-- A line's waiting record is discarded and the line leaves the input wait list (R39); pending settings held behind it
take effect (R48). -/
def State.discardWaiting (s : State) (p : Port) : State :=
  match (s.line p).waitingRecord with
  | none => s
  | some _ => { (s.mapLine p Line.clearWaiting) with inputWait := s.inputWait.filter (· ≠ p) }

/-- A session leaves its line: the line's record names no session, its partial record and any waiting record are discarded
and drain-wanted is cleared without a report (R116, R121). The output queue is kept. -/
def State.unbindLine (s : State) (p : Port) : State :=
  (s.mapLine p (fun l => { l with holder := .none, partialRecord := {}, drainWanted := false })).discardWaiting p

/-! ## Line states -/

/-- A line enters IDLE: the detector is in ON with ring count 0 and stuck hold clear, and ring that is already present is
timed from this moment (R4, R7). -/
def Line.enterIdle (l : Line) : Line :=
  { l with state := .idle, ringCount := 0, phase := .on, stuckHold := false, presenceTimed := l.ringInput,
           absenceTimed := false, abandonRunning := false, window := none, destination := .idle }

/-- The ring detector stops and its timings with it (R4). DESIGN CHOICE, unsafe (log entry 23): R4 gives the phase of a stopped
detector no value; it stands at ON until the line enters IDLE, where R4 has it in ON. -/
def Line.stopDetector (l : Line) : Line :=
  { l with phase := .on, presenceTimed := false, absenceTimed := false, abandonRunning := false, stuckHold := false }

/-- What going on hook takes from a line's record: speed, parity and stop bits, the output queue, the partial and waiting
records, drain-wanted, the input group, the noise window and whatever held the line (R1, R2, R23, R47, R48, R52, R109). -/
def Line.releaseCall (l : Line) : Line :=
  { l with speed := none, parity := none, settling := false, carrierTiming := .none, noiseCount := 0, noiseWindow := none,
           holder := .none, partialRecord := {}, waitingRecord := none, echo := true, settings := {},
           pendingSettings := none, output := [], unreported := [], transmit := [], fill := 0, drainWanted := false,
           space := .none }

/-- An off-hook line goes on hook and enters GUARD with a destination; it leaves the input wait list and the wait queue
(R2, R14, R16, R39, R109). No line event is raised here. -/
def State.goOnHook (s : State) (p : Port) (d : Destination) : State :=
  { (s.mapLine p (fun l => { l.releaseCall with state := .guard, window := some Config.guardTime, destination := d })) with
    inputWait := s.inputWait.filter (· ≠ p), waitQueue := s.waitQueue.filter (· ≠ p) }

/-- A drop without message (R14): an off-hook line goes on hook with CALL ENDED, reason DROPPED. -/
def State.dropWithoutMessage (s : State) (p : Port) (d : Destination) : State :=
  if (s.line p).state.offHook then (s.goOnHook p d).raiseEvent p (.callEnded .dropped) else s

/-- A drop with message (R14): a CONNECTED line enters DROPPING with the drain limit, and its noise window stops (R52). -/
def State.dropWithMessage (s : State) (p : Port) : State :=
  match (s.line p).state with
  | .answering => s.dropWithoutMessage p .idle
  | .searching => s.dropWithoutMessage p .idle
  | .connected =>
    s.mapLine p (fun l => { l with state := .dropping, window := some Config.drainLimit, noiseCount := 0,
                                   noiseWindow := none })
  | _ => s

/-- A line's dialogue ends, and the line leaves the wait queue (R108, R109). -/
def State.endDialogue (s : State) (p : Port) : State :=
  { (s.mapLine p (fun l => { l with holder := .none })) with waitQueue := s.waitQueue.filter (· ≠ p) }

/-- A dialogue's record enters FAREWELL: neither limit runs (R99, R109). -/
def Dialogue.farewell (d : Dialogue) : Dialogue :=
  { d with phase := .farewell, limit := .stopped, account := none, waitLimit := none }

/-- The Sign-On Unit ends a dialogue with a message: the phase becomes FAREWELL, the line leaves the wait queue, and a drop
with message is requested (R95, R99, R104, R106, R107). -/
def State.farewell (s : State) (p : Port) : State :=
  let s1 := s.mapLine p (fun l =>
    match l.holder with
    | .dialogue d => { l with holder := .dialogue d.farewell }
    | _ => l)
  ({ s1 with waitQueue := s1.waitQueue.filter (· ≠ p) }).dropWithMessage p

/-! ## The load band -/

/-- The threshold of a band 1 to 3 (R139). -/
def LoadSteps.threshold (x : LoadSteps) (b : Nat) : Nat :=
  if b = 1 then x.t1 else if b = 2 then x.t2 else x.t3

/-- The multiplier of a band (R139). -/
def LoadSteps.multiplier (x : LoadSteps) (b : Nat) : Nat :=
  if b = 0 then x.m0 else if b = 1 then x.m1 else if b = 2 then x.m2 else x.m3

/-- The band changes from its present value, with one LOAD BAND report unless it is a step of RESTART (R139, R140). -/
def State.setBand (s : State) (b : Nat) (quiet : Bool) : State :=
  let s1 := { s with tariff := { s.tariff with band := b } }
  if quiet then s1 else s1.queueReport (.loadBand s.tariff.band b s.slotsInUse (s.tariff.steps.multiplier b))

/-- The band rises while U is at or above the next threshold (R139). -/
def State.raiseBand : Nat → State → Bool → State
  | 0, s, _ => s
  | k + 1, s, quiet =>
    if s.tariff.band < 3 ∧ s.tariff.steps.threshold (s.tariff.band + 1) ≤ s.slotsInUse then
      raiseBand k (s.setBand (s.tariff.band + 1) quiet) quiet
    else s

/-- The band falls while U is below its threshold less the hysteresis (R139). -/
def State.lowerBand : Nat → State → Bool → State
  | 0, s, _ => s
  | k + 1, s, quiet =>
    if 0 < s.tariff.band ∧ s.slotsInUse + s.tariff.steps.h < s.tariff.steps.threshold s.tariff.band then
      lowerBand k (s.setBand (s.tariff.band - 1) quiet) quiet
    else s

/-- The band is re-evaluated on a change of U (R139); the bands are 0 to 3, so three moves each way are all there can be. -/
def State.reband (s : State) (quiet : Bool) : State := lowerBand 3 (raiseBand 3 s quiet) quiet

/-- The current rate of a class; none until the first selection (R137). -/
def State.currentRate (s : State) (c : Fin 4) : Option Rate := s.tariff.period.map (fun q => q.rates[c])

/-- The current multiplier for a class record (R141). -/
def State.currentMultiplier (s : State) (r : ClassRecord) : Nat :=
  if r.surcharge then s.tariff.steps.multiplier s.tariff.band else 16

/-! ## Free orders -/

/-- The things of a list in the order of this draw (log entry 2). -/
def State.drawOrder {α : Type} (s : State) (xs : List α) : List α := permute (Config.shareOrder s.draws) xs

/-- The next draw is a fresh one. -/
def State.nextDraw (s : State) : State := { s with draws := s.draws + 1 }

end Sys2Proof.Machine
end

