-- ==== Sys2Proof/Machine/Layout.lean ====
section
/-! DEFINITION. The frames, replies, reports and records of the host link, byte for byte (R166, R182, chapter 11). -/

namespace Sys2Proof.Machine

/-! ## The frame (R166) -/

/-- The sum of a frame's KIND, LENGTH and body, modulo 256 (R166). -/
def frameSum (kind : Byte) (body : List Byte) : Byte :=
  body.foldl (fun a b => a + b) (kind + BitVec.ofNat 8 body.length)

/-- The CHECK that makes the sum 0 (R166). -/
def frameCheck (kind : Byte) (body : List Byte) : Byte := 0#8 - frameSum kind body

/-- A frame's bytes: LEAD, KIND, LENGTH, body, CHECK (R166, 11.2). -/
def frameBytes (kind : Byte) (body : List Byte) : List Byte :=
  Config.lead :: kind :: BitVec.ofNat 8 body.length :: body ++ [frameCheck kind body]

/-- The KIND of a reply (R168). -/
abbrev replyKind : Byte := 0x80#8

/-- A reply's frame: the order kind, the code and the data (R168, 11.4). -/
def Reply.frame (r : Reply) : List Byte :=
  frameBytes replyKind (r.kind :: BitVec.ofNat 8 r.code.number :: r.data)

/-! ## Fields -/

/-- One byte of a number. -/
def byteOf (n : Nat) : Byte := BitVec.ofNat 8 n

/-- A line number, FFh for none (11.1). -/
def lineByte : Option Port → Byte
  | some p => byteOf p.val
  | none => 0xFF#8

/-- A time of day in four bytes (11.1). -/
def Time.bytes (t : Time) : List Byte := byteOf t.day :: beBytes 2 t.minute ++ [byteOf t.second]

/-- A text: its length and its characters (11.1). -/
def textBytes (cs : List Code) : List Byte := byteOf cs.length :: cs.map codeByte

/-- Four rates, two bytes each (11.1). -/
def rateBytes (rs : Vector Rate 4) : List Byte := rs.toList.flatMap (fun r => beBytes 2 r.code)

/-! ## Records -/

/-- The fields of a class record in the SET CLASS layout, with the class number before them (11.3). -/
def classBytes (c : Fin 4) (r : ClassRecord) : List Byte :=
  [byteOf c.val, flagByte r.free, flagByte r.surcharge] ++ beBytes 2 r.minCharge ++ beBytes 2 r.cap ++ beBytes 2 r.grace
    ++ beBytes 2 r.lowFunds ++ [byteOf r.idleLimit, byteOf r.failureLimit, byteOf r.lockPolicy.code, byteOf r.lockPeriod,
    byteOf r.repeatLimit] ++ beBytes 2 r.holdTime

/-- The ten limits in the SET LIMITS layout (11.3). -/
def Limits.bytes (x : Limits) : List Byte :=
  [byteOf x.answerWindow, byteOf x.speedWindow] ++ beBytes 2 x.signOn ++ [byteOf x.attempts, byteOf x.wait,
    byteOf x.hostSlots, byteOf x.linkTimeout, byteOf x.hostDown, byteOf x.noiseWindow, byteOf x.deglitch]

/-- The five enables in the SET REPORTS layout (11.3). -/
def Enables.bytes (e : Enables) : List Byte :=
  [flagByte e.answered, flagByte e.speedFound, flagByte e.callEnded, flagByte e.fault, flagByte e.restored]

/-- A policy entry in the SET FAULT POLICY layout, the noise limit 0 for kinds other than NOISE (R56, 11.4). -/
def policyBytes (k : FaultKind) (e : PolicyEntry) : List Byte :=
  [byteOf k.code, byteOf e.mode.code, byteOf e.periodIndex, byteOf e.retryLimit,
    byteOf (if k = .noise then e.noiseLimit else 0)]

/-- The eight load steps in the SET LOAD STEPS layout (11.3). -/
def LoadSteps.bytes (x : LoadSteps) : List Byte :=
  [byteOf x.t1, byteOf x.t2, byteOf x.t3, byteOf x.h, byteOf x.m0, byteOf x.m1, byteOf x.m2, byteOf x.m3]

/-- An account record, 19 bytes (11.4). -/
def Account.bytes (a : Account) : List Byte :=
  beBytes 3 a.number ++ [byteOf a.classNo.val] ++ beBytes 2 a.check ++ beBytes 3 a.balance ++ [byteOf a.limit,
    byteOf a.active, byteOf a.failures, byteOf a.lock.code] ++ beBytes 2 a.lock.seconds ++ [byteOf a.lockRepeats]
    ++ beBytes 3 a.chargedTotal

/-- A tariff entry, 12 bytes, an empty one as zeros (11.3, 11.4). -/
def entryBytes : Option TariffEntry → List Byte
  | none => List.replicate 12 0#8
  | some e => [1#8, BitVec.setWidth 8 e.days] ++ beBytes 2 e.start ++ rateBytes e.rates

/-- The commit day, commit minute and wrap awaited of QUERY TARIFF, 0 unless the commit is AT (11.4). -/
def Commit.bytes : Commit → List Byte
  | .at target wrap => byteOf (target / 1440) :: beBytes 2 (target % 1440) ++ [flagByte wrap]
  | _ => [0#8, 0#8, 0#8, 0#8]

/-- The QUERY TARIFF data, 224 bytes (11.4). -/
def State.tariffBytes (s : State) (named : Nat) (t : TariffTable) : List Byte :=
  let q := s.tariff
  [byteOf named] ++ t.toList.flatMap entryBytes ++ [flagByte q.activePresent, flagByte q.clockValid] ++ q.clock.bytes
    ++ [byteOf q.commit.code] ++ q.commit.bytes
    ++ (match q.period with
        | some w => [byteOf w.index, 1#8] ++ rateBytes w.rates
        | none => [0xFF#8, 0#8] ++ List.replicate 8 0#8)
    ++ q.steps.bytes ++ [byteOf s.slotsInUse, byteOf q.band]

/-- A line event's kind and detail, three bytes; 0 for none (11.4). -/
def eventBytes : Option LineEvent → List Byte
  | some e => [byteOf e.code, byteOf e.detail.1, byteOf e.detail.2]
  | none => [0#8, 0#8, 0#8]

/-- A line's place on a list, counted from 1 at the head; 0 when it is not there (R49, R88). -/
def placeIn (xs : List Port) (p : Port) : Nat := if p ∈ xs then xs.idxOf p + 1 else 0

/-- The sign-on limit remaining and whether it runs (R88, 11.4). -/
def SignOnLimit.shown : SignOnLimit → Nat × Bool
  | .running n => (n, true) | .paused n => (n, false) | .stopped => (0, false)

/-- The call group of the line record, 18 bytes (11.4). -/
def Line.callBytes (p : Port) (l : Line) : List Byte :=
  [byteOf p.val, byteOf l.state.code, byteOf l.ringCount, byteOf (speedCode l.speed), byteOf (parityCode l.parity),
    byteOf ((l.speed.map Speed.stopBits).getD 0), byteOf l.searchAttempts, flagByte l.parityCheck, flagByte l.substitute,
    byteOf l.answerRingCount, byteOf (if l.window.isSome then l.state.windowCode else 0)]
    ++ beBytes 2 (l.window.getD 0) ++ [byteOf l.destination.code, byteOf l.destination.periodIndex] ++ eventBytes l.lastEvent

/-- The fault group of the line record, 3 bytes (11.4). -/
def Line.faultBytes (l : Line) : List Byte :=
  [byteOf l.retryCount, byteOf l.noiseCount, byteOf (l.noiseWindow.getD 0)]

/-- The holder group of the line record, 11 bytes (11.4). -/
def Line.holderBytes (p : Port) (queue : List Port) (l : Line) : List Byte :=
  match l.holder with
  | .none => List.replicate 11 0#8
  | .session n => [2#8] ++ beBytes 2 n ++ List.replicate 8 0#8
  | .dialogue d =>
    [1#8, 0#8, 0#8, byteOf d.phase.code, byteOf d.attempts] ++ beBytes 2 d.limit.shown.1 ++ [flagByte d.limit.shown.2]
      ++ beBytes 2 (d.waitLimit.getD 0) ++ [byteOf (if d.phase = .waiting then placeIn queue p else 0)]

/-- The character group of the line record, 12 bytes (11.4). -/
def Line.characterBytes (p : Port) (waits : List Port) (l : Line) : List Byte :=
  [flagByte l.echo, byteOf l.settings.mode.code, byteOf l.settings.countN, flagByte l.settings.endAtCount,
    flagByte l.settings.marking, codeByte l.settings.separator, flagByte l.pendingSettings.isSome]
    ++ beBytes 2 l.output.length ++ [flagByte l.drainWanted, flagByte l.waitingRecord.isSome, byteOf (placeIn waits p)]

/-- The line record of QUERY LINE, 44 bytes (11.4). -/
def State.lineBytes (s : State) (p : Port) : List Byte :=
  let l := s.line p
  l.callBytes p ++ l.faultBytes ++ l.holderBytes p s.waitQueue ++ l.characterBytes p s.inputWait

/-- C, D, O and W, two bytes each (11.4). -/
def Charge.unitBytes (m : Charge) : List Byte :=
  beBytes 2 m.charged ++ beBytes 2 m.debited ++ beBytes 2 m.overrun ++ beBytes 2 m.waived

/-- The session record of QUERY SESSION, 64 bytes (11.4). -/
def Session.bytes (x : Session) : List Byte :=
  beBytes 2 x.number ++ beBytes 3 x.account ++ classBytes x.snapshot.classNo x.snapshot.record ++ [byteOf x.state.code,
    lineByte x.boundLine, lineByte (some x.firstLine), lineByte (some x.lastLine)] ++ x.start.bytes ++ beBytes 2 x.idle
    ++ [flagByte x.idleWarned] ++ beBytes 2 (x.hold.getD 0) ++ beBytes 3 x.metered ++ beBytes 3 x.stalled
    ++ beBytes 3 x.heldSeconds ++ [byteOf x.reattaches] ++ beBytes 2 x.meter.rate ++ [byteOf x.meter.multiplier]
    ++ beBytes 2 x.meter.acc ++ x.meter.charge.unitBytes ++ [byteOf x.meterFlags] ++ beBytes 2 (x.grace.getD 0)
    ++ beBytes 2 (x.countdown.getD 0)

/-- The bill record of TAKE BILL, 36 bytes (11.4). -/
def Bill.bytes (b : Bill) : List Byte :=
  beBytes 2 b.session ++ beBytes 3 b.account ++ [byteOf b.classNo.val, lineByte (some b.firstLine),
    lineByte (some b.lastLine)] ++ b.start.bytes ++ b.finish.bytes ++ beBytes 3 b.metered ++ beBytes 3 b.stalled
    ++ beBytes 3 b.heldSeconds ++ b.meter.unitBytes ++ [byteOf b.meter.flags, byteOf b.reattaches, byteOf b.cause.code]

/-! ## Reports (R171, 11.5) -/

/-- The KIND of a report (R171). -/
def Report.kind : Report → Byte
  | .lineEvent .. => 0x81#8 | .input .. => 0x82#8 | .sessionOpened .. => 0x83#8 | .sessionHeld .. => 0x84#8
  | .sessionResumed .. => 0x85#8 | .sessionClosed .. => 0x86#8 | .fundsLow .. => 0x87#8 | .accountLocked .. => 0x88#8
  | .drained .. => 0x89#8 | .billsWaiting .. => 0x8A#8 | .tariffSwitched .. => 0x8B#8 | .loadBand .. => 0x8C#8
  | .linkRestored .. => 0x8D#8

/-- A report's body after the lost flag (11.5). -/
def Report.content : Report → List Byte
  | .lineEvent p e => lineByte (some p) :: eventBytes (some e)
  | .input n p r =>
    beBytes 2 n ++ [lineByte (some p), byteOf r.status.code, flagByte r.isBreak, byteOf r.marks.length]
      ++ r.marks.map byteOf ++ textBytes r.text
  | .sessionOpened n p a c => beBytes 2 n ++ [lineByte (some p)] ++ beBytes 3 a ++ [byteOf c.val]
  | .sessionHeld n a p w h => beBytes 2 n ++ beBytes 3 a ++ [lineByte (some p), byteOf w.code] ++ beBytes 2 h
  | .sessionResumed n a p => beBytes 2 n ++ beBytes 3 a ++ [lineByte (some p)]
  | .sessionClosed n a p c => beBytes 2 n ++ beBytes 3 a ++ [lineByte p, byteOf c.code]
  | .fundsLow n a p b => beBytes 2 n ++ beBytes 3 a ++ [lineByte p] ++ beBytes 3 b
  | .accountLocked a p w k r =>
    beBytes 3 a ++ [lineByte (some p), flagByte w, byteOf k.code] ++ beBytes 2 k.seconds ++ [byteOf r]
  | .drained n p => beBytes 2 n ++ [lineByte (some p)]
  | .billsWaiting n => [byteOf n]
  | .tariffSwitched t q => byteOf t.day :: beBytes 2 t.minute ++ [byteOf q.index] ++ rateBytes q.rates
  | .loadBand b a u m => [byteOf b, byteOf a, byteOf u, byteOf m]
  | .linkRestored n x => beBytes 2 n ++ [flagByte x]

/-- A report's frame with the lost flag as it stands when its sending begins (R171, R182). -/
def Report.frame (r : Report) (lost : Bool) : List Byte := frameBytes r.kind (flagByte lost :: r.content)

end Sys2Proof.Machine
end

