-- ==== Sys2Proof/Machine/Metering.lean ====
section
/-! DEFINITION. The Meter Unit (chapter 8): latching, the charge of one second, the low-funds test, the funds grace and the
closing countdown, credits, and finalization at close. -/

namespace Sys2Proof.Machine

/-! ## The charge (R146 to R148) -/

/-- Step 3 of the charge: the units that fit under the session's limit, and the meter with cap reached set where a non-zero
cap is reached (R146, R147). -/
def Meter.limitUnits (m : Meter) (cap k : Nat) : Nat × Meter :=
  if cap = 0 then
    if Config.unitCeiling < m.charged + k then (Config.unitCeiling - m.charged, m) else (k, m)
  else if cap ≤ m.charged + k then (cap - m.charged, { m with capReached := true, acc := 0 })
  else (k, m)

/-- Steps 1 to 3 of the charge of a second: the units to charge and the meter after them (R146, R147). -/
def Meter.accumulate (m : Meter) (cap : Nat) : Nat × Meter :=
  if m.capReached then (0, { m with acc := 0 })
  else
    let t := m.acc + m.rate * m.multiplier
    ({ m with acc := t % Config.unit }).limitUnits cap (t / Config.unit)

/-- Steps 4 and 5 on the meter: k units charged, divided by R148 against a balance. -/
def Meter.book (m : Meter) (free : Bool) (balance k : Nat) : Meter :=
  if free then { m with charged := m.charged + k, waived := m.waived + k }
  else { m with charged := m.charged + k, debited := m.debited + min k balance, overrun := m.overrun + (k - min k balance) }

/-- Steps 4 and 5 on the account: the charged total rises and rests at its bound, and a session that is not free debits the
balance by the smaller of k and the balance (R84, R148). -/
def Account.book (a : Account) (free : Bool) (k : Nat) : Account :=
  { a with chargedTotal := restAt Config.maxMoney (a.chargedTotal + k),
           balance := if free then a.balance else a.balance - k }

/-- Steps 4 and 5 of the charge on session `n` (R146, R148). -/
def State.bookUnits (s : State) (n k : Nat) : State :=
  match s.findSession n with
  | none => s
  | some x =>
    (s.mapSession n (fun y =>
      { y with meter := y.meter.book x.snapshot.record.free (s.balanceOf x.account) k })).mapAccount x.account
      (fun a => a.book x.snapshot.record.free k)

/-! ## Low funds, grace and countdowns (R149 to R154) -/

/-- The low-funds test of a session (R149). -/
def State.lowFundsTest (s : State) (n : Nat) : State :=
  match s.findSession n with
  | none => s
  | some x =>
    let b := s.balanceOf x.account
    if x.snapshot.record.lowFunds ≠ 0 ∧ b ≤ x.snapshot.record.lowFunds ∧ x.fundsWarned = false then
      ((s.queueMessageTo x.boundLine slotFundsLow).queueReport (.fundsLow n x.account x.boundLine b)).mapSession n
        (fun y => { y with fundsWarned := true })
    else s

/-- Step 7 of the charge: a funds grace is started, or with grace 0 the session is to close now (R150). -/
def State.graceStart (s : State) (n : Nat) : State × Bool :=
  match s.findSession n with
  | none => (s, false)
  | some x =>
    if x.snapshot.record.free = false ∧ s.balanceOf x.account = 0 ∧ x.grace = none then
      if x.snapshot.record.grace = 0 then (s, true)
      else (s.mapSession n (fun y => { y with grace := some x.snapshot.record.grace }), false)
    else (s, false)

/-- A count of metered seconds lowered by 1 where it runs, and whether that brought it to 0 (R151). -/
def lowerCount (runs : Bool) : Option Nat → Option Nat × Bool
  | some g => if runs then (if g ≤ 1 then (none, true) else (some (g - 1), false)) else (some g, false)
  | none => (none, false)

/-- Step 8 of the charge: the grace and the countdown that were running before this mark are lowered; at 0 the session is
to close, FUNDS EXHAUSTED before CLOSED HOURS (R151). -/
def State.lowerCountdowns (s : State) (n : Nat) (graceRan countdownRan : Bool) : State × Option Cause :=
  match s.findSession n with
  | none => (s, none)
  | some x =>
    let g := lowerCount graceRan x.grace
    let c := lowerCount countdownRan x.countdown
    (s.mapSession n (fun y => { y with grace := g.1, countdown := c.1 }),
      if g.2 then some .fundsExhausted else if c.2 then some .closedHours else none)

/-- The charge of the second that ended at this mark, and the cause with which the session is to close, if it is (R146).
`countdownRan` says that a closing countdown was running on it before this mark (R151). -/
def State.chargeSecond (s : State) (n : Nat) (countdownRan : Bool) : State × Option Cause :=
  match s.findSession n with
  | none => (s, none)
  | some x =>
    let u := x.meter.accumulate x.snapshot.record.cap
    let s1 := ((s.mapSession n (fun y => { y with meter := u.2 })).bookUnits n u.1).lowFundsTest n
    match s1.graceStart n with
    | (s2, true) => (s2, some .fundsExhausted)
    | (s2, false) => s2.lowerCountdowns n x.grace.isSome countdownRan

/-! ## Latching (R144, R145) -/

/-- Which of its two latched values a session takes anew at a point of a minute mark (R145). -/
inductive Latch where
  | none | rate | multiplier | both
  deriving DecidableEq, Repr

/-- A session's rate takes the current rate of its class if that is open (R145). -/
def State.latchRate (s : State) (n : Nat) : State :=
  s.mapSession n (fun y =>
    { y with meter := { y.meter with
        rate := match s.currentRate y.snapshot.classNo with
                | some (.open cu) => cu
                | _ => y.meter.rate } })

/-- A session's multiplier takes the current multiplier, whether or not its rate is closed (R141, R145). -/
def State.latchMultiplier (s : State) (n : Nat) : State :=
  s.mapSession n (fun y => { y with meter := { y.meter with multiplier := s.currentMultiplier y.snapshot.record } })

/-- A re-latch of a session, as far as it goes at this point of the mark (R145). -/
def State.relatch (s : State) (n : Nat) : Latch → State
  | .none => s
  | .rate => s.latchRate n
  | .multiplier => s.latchMultiplier n
  | .both => (s.latchRate n).latchMultiplier n

/-- The rate an admission latches: the one its check 6 has just found open (R144). -/
def State.admissionRate (s : State) (c : Fin 4) : Nat :=
  match s.currentRate c with
  | some (.open cu) => cu
  | _ => 0

/-! ## Balance changes (R75, R152) -/

/-- A raise of an account's balance handed to its sessions: from 0 every running grace is cancelled, and above a session's
low-funds threshold its funds warned flag is cleared (R75, R152). A change that lowers the balance is not handed on. -/
def State.balanceChanged (s : State) (a before after : Nat) : State :=
  if before < after then
    { s with sessions := s.sessions.map (fun x =>
        if x.account = a then
          { x with grace := if before = 0 then none else x.grace,
                   fundsWarned := if x.snapshot.record.lowFunds < after then false else x.fundsWarned }
        else x) }
  else s

/-! ## Finalization (R155, R156) -/

/-- Rounding at close (R155): with cap reached clear and half a unit or more in the accumulator, one further unit, if it
fits. -/
def State.roundSession (s : State) (n : Nat) : State :=
  match s.findSession n with
  | none => s
  | some x =>
    if x.meter.capReached = false ∧ Config.halfUnit ≤ x.meter.acc then
      let u := x.meter.limitUnits x.snapshot.record.cap 1
      (s.mapSession n (fun y => { y with meter := { u.2 with rounded := decide (u.1 = 1) } })).bookUnits n u.1
    else s

/-- The class minimum at close (R156). -/
def State.applyMinimum (s : State) (n : Nat) : State :=
  match s.findSession n with
  | none => s
  | some x =>
    if x.meter.charged < x.snapshot.record.minCharge then
      (s.mapSession n (fun y => { y with meter := { y.meter with minApplied := true } })).bookUnits n
        (x.snapshot.record.minCharge - x.meter.charged)
    else s

/-- Finalization of a session's charge, step 1 of a close (R121, R155, R156). -/
def State.finalize (s : State) (n : Nat) : State := (s.roundSession n).applyMinimum n

end Sys2Proof.Machine
end

