-- ==== Sys2Proof/Machine/Closing.lean ====
section
/-! DEFINITION. Admission, the wait queue's evaluation, and the close of a session (R98, R105, R106, R113, R121, R122),
which call on one another. -/

namespace Sys2Proof.Machine

/-! ## Admission (R98, R113) -/

/-- The number after a session number, 65,535 being followed by 1 (R113). -/
def succNumber (v : Nat) : Nat := if 65535 ≤ v then 1 else v + 1

/-- The first number from `v` on that no session record holds (R113); 33 tries are enough for 32 records. -/
def freeNumber (used : List Nat) : Nat → Nat → Nat
  | 0, v => v
  | k + 1, v => if v ∈ used then freeNumber used k (succNumber v) else v

/-- Admission of a line to a new session of an account, the checks having passed (R98). -/
def State.admitLine (s : State) (p : Port) (acct : Account) : State :=
  let n := freeNumber (s.sessions.map (·.number)) 33 s.nextNumber
  let record := s.classes[acct.classNo]
  let fresh : Session :=
    { number := n, account := acct.number, snapshot := ⟨acct.classNo, record⟩, boundLine := some p, firstLine := p,
      lastLine := p, start := s.tariff.clock, meter := { rate := s.admissionRate acct.classNo, multiplier := 16 } }
  let s1 := { s with sessions := s.sessions ++ [fresh], nextNumber := succNumber n }
  let s2 := (s1.mapAccount acct.number (fun a => { a with active := a.active + 1 })).reband false
  let s3 := s2.mapSession n (fun y => { y with meter := { y.meter with multiplier := s2.currentMultiplier record } })
  let s4 := s3.mapLine p (fun l => { l with retryCount := 0, holder := .session n })
  (({ s4 with waitQueue := s4.waitQueue.filter (· ≠ p) }).queueReport
    (.sessionOpened n p acct.number acct.classNo)).lowFundsTest n

/-! ## The wait queue (R105, R106) -/

/-- Whether the current rate of a class is open, as check 6 asks; before any selection no rate is (R96, R137). -/
def State.rateOpen (s : State) (c : Fin 4) : Bool :=
  match s.currentRate c with
  | some (.open _) => true
  | _ => false

/-- Reservations in use: session records plus bill records (R97, R160). -/
def State.reservations (s : State) : Nat := s.sessions.length + s.bills.length

/-- Checks 5, 6, 7, 9 and 10 on an account, for a line at the head of the wait queue: the message of the first that fails
(R106). -/
def State.headRefusal (s : State) (a : Account) : Option Slot :=
  if a.lock ≠ .open then some slotSuspended
  else if s.rateOpen a.classNo = false then some slotNotAtThisHour
  else if a.balance = 0 ∧ (s.classes[a.classNo]).free = false then some slotNoFunds
  else if a.limit ≤ a.active then some slotLimit
  else if Config.maxReservations ≤ s.reservations then some slotNotAvailable
  else none

/-- A line taken from the head of the wait queue is judged again: admitted, or dropped (R106). -/
def State.judgeHead (s : State) (p : Port) : State :=
  match s.link.host with
  | .down => (s.endDialogue p).dropWithoutMessage p .idle
  | .up =>
    match ((s.line p).dialogue.bind (·.account)).bind s.findAccount with
    | none => (s.queueMessage p slotNotAccepted).farewell p
    | some a =>
      match s.headRefusal a with
      | some m => (s.queueMessage p m).farewell p
      | none => s.admitLine p a

/-- The wait queue is evaluated: while it holds a line and slots in use are below H, its head is removed and judged (R105).
`k` is the queue's length at the start, and each round removes one line. -/
def State.evaluateQueue : Nat → State → State
  | 0, s => s
  | k + 1, s =>
    match s.waitQueue with
    | [] => s
    | p :: rest =>
      if s.slotsInUse < s.limits.hostSlots then
        evaluateQueue k ({ s with waitQueue := rest }.judgeHead p)
      else s

/-- One evaluation of the wait queue (R105). -/
def State.evaluate (s : State) : State := State.evaluateQueue s.waitQueue.length s

/-! ## Close (R121, R122) -/

/-- The bill record of a session with a cause, ended now (R161). -/
def State.billOf (s : State) (x : Session) (c : Cause) : Bill :=
  { session := x.number, account := x.account, classNo := x.snapshot.classNo, firstLine := x.firstLine,
    lastLine := x.lastLine, start := x.start, finish := s.tariff.clock, metered := x.metered, stalled := x.stalled,
    heldSeconds := x.heldSeconds, meter := x.meter.charge, reattaches := x.reattaches,
    cause := c }

/-- A bill record joins the tail; BILLS WAITING is queued at the first record and at the high level, unless RESTART makes
the close (R161, R164). -/
def State.addBill (s : State) (b : Bill) (quiet : Bool) : State :=
  let s1 := { s with bills := s.bills ++ [b] }
  if quiet = false ∧ (s.bills.length = 0 ∨ s.bills.length = 95) then s1.queueReport (.billsWaiting (s.bills.length + 1))
  else s1

/-- The record of a session is freed: its line is unbound, the record leaves the table, and the band is re-evaluated (step 4
of R121). -/
def State.freeSession (s : State) (n : Nat) (quiet : Bool) : State :=
  let s1 := match s.boundLine n with
    | some p => s.unbindLine p
    | none => s
  ({ s1 with sessions := s1.sessions.eraseP (fun x => x.number == n) }).reband quiet

/-- The close of a session with a cause, steps 1 to 5 of R121. `quiet` is set for a close that RESTART makes: no report, and
the wait queue is not evaluated (R105, R127, R164). The line action follows in `closeAndAct`. -/
def State.closeSession (s : State) (n : Nat) (c : Cause) (quiet : Bool) : State :=
  let s1 := s.finalize n
  match s1.findSession n with
  | none => s
  | some x =>
    let s2 := (s1.addBill (s1.billOf x c) quiet).mapAccount x.account (fun a => { a with active := a.active - 1 })
    let s3 := s2.freeSession n quiet
    if quiet then s3
    else
      let s4 := if s3.slotsInUse < s3.limits.hostSlots then s3.evaluate else s3
      s4.queueReport (.sessionClosed n x.account x.boundLine c)

/-- The line action of a close cause, on the line that was bound (R122). -/
def State.closeAction (s : State) (port : Option Port) (c : Cause) : State :=
  match port with
  | none => s
  | some p =>
    match c with
    | .hostEnded => (s.queueMessage p slotGoodbye).dropWithMessage p
    | .closedHours => (s.queueMessage p slotGoodbye).dropWithMessage p
    | .idle => (s.queueMessage p slotGoodbye).dropWithMessage p
    | .fundsExhausted => ((s.queueMessage p slotNoFunds).queueMessage p slotGoodbye).dropWithMessage p
    | .hostLost => s.dropWithoutMessage p .idle
    | .hangup => s | .lineFault => s | .holdExpired => s | .lineRemoved => s | .restart => s

/-- A close with the line action that goes with its cause (R121, R122). -/
def State.closeAndAct (s : State) (n : Nat) (c : Cause) : State :=
  let port := s.boundLine n
  (s.closeSession n c false).closeAction port c

/-! ## Losing the line (R116) -/

/-- A session whose line is lost becomes HELD, or with hold time 0 closes with the cause given (R116). The Call Controller
then puts the line on hook. -/
def State.loseLine (s : State) (n : Nat) (p : Port) (reason : HeldReason) : State :=
  match s.findSession n with
  | none => s
  | some x =>
    let h := x.snapshot.record.holdTime
    if h = 0 then
      s.closeSession n (match reason with | .carrierLost => .hangup | .lineFault => .lineFault) false
    else
      let s1 := (s.unbindLine p).mapLine p (fun l => { l with output := [], unreported := [], fill := 0 })
      (s1.mapSession n (fun y => { y with state := .held, boundLine := none, hold := some h })).queueReport
        (.sessionHeld n x.account p reason h)

/-- Whatever holds a CONNECTED line is told that the call is over: a session is held or closed, a dialogue ends (R13, R62). -/
def State.tellHolder (s : State) (p : Port) (reason : HeldReason) : State :=
  match (s.line p).holder with
  | .session n => s.loseLine n p reason
  | .dialogue _ => s.endDialogue p
  | .none => s

end Sys2Proof.Machine
end

