-- ==== Sys2Proof/Machine/Faulting.lean ====
section
/-! DEFINITION. The Fault Monitor (chapter 3): the policy table, the outcome of a fault, and taking one. -/

namespace Sys2Proof.Machine

/-- The policy entry of a fault kind (R55). -/
def PolicyTable.entry (t : PolicyTable) : FaultKind → PolicyEntry
  | .noCarrier => t.noCarrier | .noSpeed => t.noSpeed | .noise => t.noise | .longSpace => t.longSpace
  | .ringStuck => t.ringStuck

/-- The table with one entry replaced (R56). -/
def PolicyTable.replace (t : PolicyTable) (k : FaultKind) (e : PolicyEntry) : PolicyTable :=
  match k with
  | .noCarrier => { t with noCarrier := e } | .noSpeed => { t with noSpeed := e } | .noise => { t with noise := e }
  | .longSpace => { t with longSpace := e } | .ringStuck => { t with ringStuck := e }

/-- Whether a fault ends the call (R58): NO CARRIER and NO SPEED in every mode, NOISE and LONG SPACE under LATCH and RETRY;
RING STUCK has no call. -/
def FaultKind.endsCall (k : FaultKind) (m : PolicyMode) : Bool :=
  match k with
  | .noCarrier => true
  | .noSpeed => true
  | .noise => m == .latch || m == .retry
  | .longSpace => m == .latch || m == .retry
  | .ringStuck => false

/-- The retry count after a fault: one more in RETRY mode, stopping at 15 (R60). -/
def PolicyEntry.retryAfter (e : PolicyEntry) (count : Nat) : Nat :=
  if e.mode = .retry then restAt 15 (count + 1) else count

/-- The destination of a fault's outcome, from the retry count after it (R59 to R61). -/
def PolicyEntry.destination (e : PolicyEntry) (count : Nat) : Destination :=
  match e.mode with
  | .latch => .latched
  | .retry => if e.retryLimit ≠ 0 ∧ e.retryLimit ≤ count then .latched else .resting e.periodIndex
  | .report => .idle
  | .ignore => .idle

/-- Steps 1 and 2 of taking a fault: the outcome is chosen, the retry count raised, and the FAULT event raised unless the
mode is IGNORE (R60, R61, R62). -/
def State.judgeFault (s : State) (p : Port) (k : FaultKind) : State × Destination :=
  let e := s.policies.entry k
  let count := e.retryAfter (s.line p).retryCount
  let s1 := s.mapLine p (fun l => { l with retryCount := count })
  (if e.mode = .ignore then s1 else s1.raiseEvent p (.fault k), e.destination count)

/-- A fault on an off-hook line (R62): the outcome, then, if it ends the call, the holder of a CONNECTED line is told and
the line is dropped without message to the outcome's destination. -/
def State.takeFault (s : State) (p : Port) (k : FaultKind) : State :=
  let ends := k.endsCall (s.policies.entry k).mode
  let o := s.judgeFault p k
  if ends then (o.1.tellHolder p .lineFault).dropWithoutMessage p o.2 else o.1

/-- The RING STUCK fault on an on-hook line (R7, R58 to R61): the ring count is cleared and the line goes at once where the
outcome sends it. -/
def State.takeRingStuck (s : State) (p : Port) : State :=
  let o := (s.mapLine p (fun l => { l with ringCount := 0 })).judgeFault p .ringStuck
  match o.2 with
  | .latched => o.1.mapLine p (fun l => { l.stopDetector with state := .latched, window := none })
  | .resting i => o.1.mapLine p (fun l => { l.stopDetector with state := .resting, window := some (retryPeriod i) })
  | .idle => o.1.mapLine p (fun l => { l.enterIdle with stuckHold := true, presenceTimed := false })

/-- An error character is counted in the noise window; at the noise limit of the policy in force the count is cleared and
the NOISE fault is taken (R53). The second part says whether the call has ended. -/
def State.countError (s : State) (p : Port) : State × Bool :=
  let n := (s.line p).noiseCount + 1
  if s.policies.noise.noiseLimit ≤ n then
    ((s.mapLine p (fun l => { l with noiseCount := 0 })).takeFault p .noise,
      FaultKind.noise.endsCall s.policies.noise.mode)
  else (s.mapLine p (fun l => { l with noiseCount := n }), false)

end Sys2Proof.Machine
end

