-- ==== Sys2Proof/Machine/SigningOn.lean ====
section
/-! DEFINITION. The Sign-On Unit (chapter 5) and the Account Store's password check (4.4): the parse of a sign-on record, the
admission checks in their order, a counted refusal, the reattach and the entry to the wait queue. -/

namespace Sys2Proof.Machine

/-! ## The record (R92) -/

/-- Whether a character is a digit. -/
def isDigit (c : Code) : Bool := decide (48 ≤ c.toNat) && decide (c.toNat ≤ 57)

/-- The decimal number of some digits. -/
def decimalOf (ds : List Code) : Nat := ds.foldl (fun v c => v * 10 + (c.toNat - 48)) 0

/-- The account number and the password of a well-formed sign-on record; none of a malformed one (R92). -/
def parseSignOn (text : List Code) (marks : List Nat) (status : RecordStatus) : Option (Nat × List Code) :=
  match status, marks with
  | .complete, [p] =>
    let ds := text.take p
    let pw := text.drop p
    if 1 ≤ ds.length ∧ ds.length ≤ 6 ∧ ds.all isDigit = true ∧ 1 ≤ decimalOf ds ∧ 1 ≤ pw.length ∧ pw.length ≤ 12
        ∧ pw.all (fun c => decide (33 ≤ c.toNat) && decide (c.toNat ≤ 126)) = true then
      some (decimalOf ds, pw)
    else none
  | _, _ => none

/-! ## The password check and the locks (R79 to R82) -/

/-- The lock policy of the account's class applied at the failure limit (R81), with its ACCOUNT LOCKED report (R82). -/
def State.applyLockPolicy (s : State) (p : Port) (a : Account) (failures : Nat) : State :=
  let r := s.classes[a.classNo]
  match r.lockPolicy with
  | .off => s.mapAccount a.number (fun x => { x with failures := failures })
  | .report =>
    (s.mapAccount a.number (fun x => { x with failures := 0 })).queueReport
      (.accountLocked a.number p true .open a.lockRepeats)
  | .timed =>
    let repeats := restAt 7 (a.lockRepeats + 1)
    let lock := if r.repeatLimit ≤ repeats then LockState.lockedHeld
                else .lockedTimed (lockPeriodSeconds r.lockPeriod)
    (s.mapAccount a.number (fun x => { x with failures := 0, lock := lock, lockRepeats := repeats })).queueReport
      (.accountLocked a.number p false lock repeats)
  | .latch =>
    (s.mapAccount a.number (fun x => { x with failures := 0, lock := .lockedHeld })).queueReport
      (.accountLocked a.number p false .lockedHeld a.lockRepeats)

/-- A password that does not match an OPEN account is counted, and at the class failure limit the lock policy is applied
(R80). -/
def State.countFailure (s : State) (p : Port) (a : Account) : State :=
  let failures := restAt 15 (a.failures + 1)
  if (s.classes[a.classNo]).failureLimit ≤ failures then s.applyLockPolicy p a failures
  else s.mapAccount a.number (fun x => { x with failures := failures })

/-! ## Outcomes of a record (R94, R95, R101, R103) -/

/-- A refusal with attempt counted (R95): the message, then PROMPT, or at the attempts limit GOODBYE and the drop. -/
def State.refuseSignOn (s : State) (p : Port) (d : Dialogue) (message : Slot) : State :=
  let attempts := restAt 5 (d.attempts + 1)
  let s1 := (s.mapLine p (fun l => { l with holder := .dialogue { d with attempts := attempts } })).queueMessage p message
  if attempts < s.limits.attempts then s1.queueMessage p slotPrompt
  else (s1.queueMessage p slotGoodbye).farewell p

/-- Of two held sessions, the one a reattach takes: the least hold remaining, then the lowest number (R100). -/
def sooner (x y : Session) : Session :=
  let hx := x.hold.getD 0
  let hy := y.hold.getD 0
  if hx < hy then x else if hy < hx then y else if x.number ≤ y.number then x else y

/-- The session a sign-on of an account reattaches, if the account has a HELD one (R97, R100). -/
def State.heldSession (s : State) (a : Nat) : Option Session :=
  match s.sessions.filter (fun x => x.account == a && x.state == .held) with
  | [] => none
  | x :: xs => some (xs.foldl sooner x)

/-- A reattach of a held session to a line (R101). -/
def State.reattach (s : State) (p : Port) (x : Session) : State :=
  let s1 := s.mapSession x.number (fun y =>
    { y with state := .open, boundLine := some p, hold := none, idle := 0, idleWarned := false,
             reattaches := restAt 255 (y.reattaches + 1), lastLine := p })
  let s2 := s1.mapLine p (fun l => { l with retryCount := 0, holder := .session x.number })
  ((s2.queueMessage p slotResumed).queueReport (.sessionResumed x.number x.account p)).lowFundsTest x.number

/-- The sign-on limit paused, its remaining value held (R99). -/
def SignOnLimit.pause : SignOnLimit → SignOnLimit
  | .running n => .paused n
  | .paused n => .paused n
  | .stopped => .stopped

/-- A line enters the wait queue at its tail (R103). -/
def State.enterQueue (s : State) (p : Port) (d : Dialogue) (a : Nat) : State :=
  let w : Dialogue :=
    { d with phase := .waiting, limit := d.limit.pause, account := some a, waitLimit := some (s.limits.wait * 60) }
  ({ (s.mapLine p (fun l => { l with holder := .dialogue w })) with waitQueue := s.waitQueue ++ [p] }).queueMessage p
    slotPleaseWait

/-! ## The admission checks (R93) -/

/-- Checks 9 to 11 and what follows them (R93, R97). -/
def State.capacityChecks (s : State) (p : Port) (d : Dialogue) (a : Account) : State :=
  if a.limit ≤ a.active then s.refuseSignOn p d slotLimit
  else if Config.maxReservations ≤ s.reservations then s.refuseSignOn p d slotNotAvailable
  else if s.slotsInUse < s.limits.hostSlots then s.admitLine p a
  else if 0 < s.limits.wait then s.enterQueue p d a.number
  else (s.queueMessage p slotPleaseWait).farewell p

/-- Checks 6 to 8 and what follows them, on an account whose password matched and whose lock is OPEN (R93, R96, R97). -/
def State.accountChecks (s : State) (p : Port) (d : Dialogue) (a : Account) : State :=
  if s.rateOpen a.classNo = false then s.refuseSignOn p d slotNotAtThisHour
  else if a.balance = 0 ∧ (s.classes[a.classNo]).free = false then s.refuseSignOn p d slotNoFunds
  else
    match s.heldSession a.number with
    | some x => s.reattach p x
    | none => s.capacityChecks p d a

/-- A record that ended in ENTRY is judged: the parse and the admission checks, as one event (R91, R93). -/
def State.judgeRecord (s : State) (p : Port) (d : Dialogue) (text : List Code) (marks : List Nat) (status : RecordStatus) :
    State :=
  match s.link.host with
  | .down => (s.endDialogue p).dropWithoutMessage p .idle
  | .up =>
    match parseSignOn text marks status with
    | none => s.refuseSignOn p d slotNotAccepted
    | some (number, pw) =>
      match s.findAccount number with
      | none => s.refuseSignOn p d slotNotAccepted
      | some a =>
        if checkValue pw = a.check then
          match a.lock with
          | .open => (s.mapAccount number (fun x => { x with failures := 0 })).accountChecks p d a
          | .lockedTimed _ => s.refuseSignOn p d slotSuspended
          | .lockedHeld => s.refuseSignOn p d slotSuspended
        else
          match a.lock with
          | .open => (s.countFailure p a).refuseSignOn p d slotNotAccepted
          | .lockedTimed _ => s.refuseSignOn p d slotNotAccepted
          | .lockedHeld => s.refuseSignOn p d slotNotAccepted

end Sys2Proof.Machine
end

