-- ==== Sys2Proof/Machine/TariffUnit.lean ====
section
/-! DEFINITION. The Tariff Unit (chapter 7): the clock of day, the checks of a commit, period selection with its closed and
reopened signals, and the switch at a minute mark. -/

namespace Sys2Proof.Machine

/-! ## The clock (R128, R129) -/

/-- The clock one second later (R129). -/
def Time.advance (t : Time) : Time :=
  if t.second < 59 then { t with second := t.second + 1 }
  else if t.minute < 1439 then { t with second := 0, minute := t.minute + 1 }
  else if t.day < 6 then { day := t.day + 1, minute := 0, second := 0 }
  else { day := 0, minute := 0, second := 0 }

/-- Whether the mark that advanced the clock brought the day from 6 to 0 (R129). -/
def Time.wraps (t : Time) : Bool := t.advance.day == 0 && t.day == 6

/-- At a second mark a valid clock is advanced (R129). -/
def State.advanceClock (s : State) : State :=
  if s.tariff.clockValid then { s with tariff := { s.tariff with clock := s.tariff.clock.advance } } else s

/-! ## Period selection (R137, R138) -/

/-- Of the best entry so far and one more, the one period selection keeps: used, on the day, started, and the latest start
(R137). -/
def laterEntry (day minute : Nat) (best : Option (Nat × TariffEntry)) (i : Nat) (e : Option TariffEntry) :
    Option (Nat × TariffEntry) :=
  match e with
  | none => best
  | some e =>
    if e.days.getLsbD day = true ∧ e.start ≤ minute then
      match best with
      | none => some (i, e)
      | some b => if b.2.start < e.start then some (i, e) else best
    else best

/-- The entry in force on a day at a minute: the used entry of that day with the greatest start at or below the minute
(R137). -/
def TariffTable.entryAt (t : TariffTable) (day minute : Nat) : Option (Nat × TariffEntry) :=
  t.toList.zipIdx.foldl (fun best x => laterEntry day minute best x.2 x.1) none

/-- Whether a session is one that the closed signal of a class starts a countdown on (R138, R153). -/
def Session.takesClosing (x : Session) (c : Fin 4) : Bool :=
  x.snapshot.classNo == c && x.state != .held && x.countdown.isNone

/-- The closed signal of a class: the countdown is started and CLOSING queued on each of its OPEN and STALLED sessions that
has none running (R153). -/
def State.closedSignal (s : State) (c : Fin 4) : State :=
  let hit := s.sessions.filter (fun x => x.takesClosing c)
  let s1 := { s with sessions := s.sessions.map (fun x =>
    if x.takesClosing c then { x with countdown := some Config.closingCountdown } else x) }
  hit.foldl (fun q x => q.queueMessageTo x.boundLine slotClosing) s1

/-- The reopened signal of a class: the countdown of each of its sessions becomes absent (R154). -/
def State.reopenedSignal (s : State) (c : Fin 4) : State :=
  { s with sessions := s.sessions.map (fun x =>
      if x.snapshot.classNo = c then { x with countdown := none } else x) }

/-- The signal that the change of a class's rate gives; none where the rate was absent (R138). -/
def State.rateSignal (s : State) (c : Fin 4) (before after : Option Rate) : State :=
  match before, after with
  | some (.open _), some .closed => s.closedSignal c
  | some .closed, some (.open _) => s.reopenedSignal c
  | _, _ => s

/-- The four signals of a selection, class by class (R138). -/
def State.rateSignals (s : State) (before after : Option Period) : State :=
  [(0 : Fin 4), 1, 2, 3].foldl
    (fun q c => q.rateSignal c (before.map (fun w => w.rates[c])) (after.map (fun w => w.rates[c]))) s

/-- Period selection for the minute the clock shows, made when the clock is valid and the active table present (R137,
R138). -/
def State.selectPeriod (s : State) : State :=
  if s.tariff.clockValid = true ∧ s.tariff.activePresent = true then
    match s.tariff.active.entryAt s.tariff.clock.day s.tariff.clock.minute with
    | none => s
    | some (i, e) =>
      ({ s with tariff := { s.tariff with period := some ⟨i, e.rates⟩ } }).rateSignals s.tariff.period (some ⟨i, e.rates⟩)
  else s

/-! ## Commits (R134 to R136) -/

/-- Two used entries that share a day and a start (R134). -/
def TariffEntry.clashes (a b : TariffEntry) : Bool := a.start == b.start && (a.days &&& b.days) != 0#7

/-- Whether two used entries of a table share a day and a start (R134). -/
def hasClash : List TariffEntry → Bool
  | [] => false
  | e :: rest => rest.any (fun x => e.clashes x) || hasClash rest

/-- The used entries of a table. -/
def TariffTable.used (t : TariffTable) : List TariffEntry := t.toList.filterMap id

/-- Whether every day 0 to 6 is in the day set of some used entry that starts at minute 0 (R134). -/
def TariffTable.complete (t : TariffTable) : Bool :=
  (List.range 7).all (fun d => t.used.any (fun e => e.start == 0 && e.days.getLsbD d))

/-- Whether a pending commit is due at a minute mark (R135). -/
def Commit.due (c : Commit) (now : Nat) : Bool :=
  match c with
  | .none => false
  | .nextMinute => true
  | .at target wrap => !wrap && decide (target ≤ now)

/-- A pending AT commit stops awaiting the week's wrap (R129, R135). -/
def Commit.clearWrap : Commit → Commit
  | .at target _ => .at target false
  | c => c

/-- A pending AT commit judged against a clock that was set: passed or reached, it becomes NEXT MINUTE (R130, R135). -/
def Commit.rejudge (c : Commit) (now : Nat) : Commit :=
  match c with
  | .at target false => if target ≤ now then .nextMinute else .at target false
  | c => c

/-- The switch: the standby table becomes active, the commit absent, the period is selected and TARIFF SWITCHED is queued
(R136). -/
def State.switchTariff (s : State) : State :=
  let s1 := ({ s with tariff := { s.tariff with active := s.tariff.standby, activePresent := true, commit := .none } }).selectPeriod
  match s1.tariff.period with
  | some w => s1.queueReport (.tariffSwitched s1.tariff.clock w)
  | none => s1

/-- The Tariff Unit's share of a minute mark, in its order: the wrap, the switch, the selection (R129). -/
def State.minuteMark (s : State) (wrapped : Bool) : State :=
  let s1 := if wrapped then { s with tariff := { s.tariff with commit := s.tariff.commit.clearWrap } } else s
  let s2 := if s1.tariff.commit.due s1.tariff.clock.minuteOfWeek then s1.switchTariff else s1
  s2.selectPeriod

end Sys2Proof.Machine
end

