-- ==== Sys2Proof/Machine/Linking.lean ====
section
/-! DEFINITION. The Link Controller's shared operations (chapter 10): the host state's changes, and a
reply. -/

namespace Sys2Proof.Machine

/-! ## Replies (R168) -/

/-- A reply is placed on the reply path (R168). -/
def State.placeReply (s : State) (kind : Byte) (code : ReplyCode) (data : List Byte) : State :=
  { s with link := { s.link with replyPath := some ⟨kind, code, data⟩ } }

/-- An order refused: the reply carries the code and no data, and nothing else changes (R168, R169). -/
def State.refuse (s : State) (kind : Byte) (code : ReplyCode) : State := s.placeReply kind code []

/-- DONE, or CLAMPED where a value was replaced (R169). -/
def doneOr (clamped : Bool) : ReplyCode := if clamped then .clamped else .done

/-! ## The host state (R118, R119, R175, R177) -/

/-- Each OPEN session becomes STALLED, with NOT AVAILABLE on its line (R118). -/
def State.stallSessions (s : State) : State :=
  let hit := s.sessions.filter (fun x => x.state == .open)
  let s1 := { s with sessions := s.sessions.map (fun x => if x.state = .open then { x with state := .stalled } else x) }
  hit.foldl (fun q x => q.queueMessageTo x.boundLine slotNotAvailable) s1

/-- Each STALLED session becomes OPEN, with RESUMED on its line (R119). -/
def State.resumeSessions (s : State) : State :=
  let hit := s.sessions.filter (fun x => x.state == .stalled)
  let s1 := { s with sessions := s.sessions.map (fun x => if x.state = .stalled then { x with state := .open } else x) }
  hit.foldl (fun q x => q.queueMessageTo x.boundLine slotResumed) s1

/-- The wait queue is emptied from its head, each line sent NOT AVAILABLE and dropped with message (R107). -/
def State.emptyQueue : State → List Port → State
  | s, [] => s
  | s, p :: rest => emptyQueue ((s.queueMessage p slotNotAvailable).farewell p) rest

/-- The host state becomes DOWN (R175): the timeout stops, seconds down restart, the host-down limit starts, sessions stall
and the wait queue is emptied. -/
def State.hostDown (s : State) : State :=
  let m := s.limits.hostDown
  let s1 := { s with link := { s.link with host := .down, timeoutRunning := false, secondsDown := 0, downExpired := false,
                                           downRemaining := if m = 0 then none else some (m * 60) } }
  let s2 := s1.stallSessions
  s2.emptyQueue s2.waitQueue

/-- The link timeout restarts from 0 if its setting is 1 to 60 s (R175). -/
def State.restartTimeout (s : State) : State :=
  { s with link := { s.link with timeoutRunning := s.limits.linkTimeout != 0 } }

/-- A good frame acts on the link monitor: while UP it restarts the timeout; while DOWN it restores UP, resumes the stalled
sessions and queues LINK RESTORED (R175, R177). -/
def State.goodFrame (s : State) : State :=
  match s.link.host with
  | .up => s.restartTimeout
  | .down =>
    let s1 := ({ s with link := { s.link with host := .up, downRemaining := none } }).restartTimeout
    s1.resumeSessions.queueReport (.linkRestored s1.link.secondsDown s1.link.downExpired)

end Sys2Proof.Machine
end

