-- ==== Sys2Proof/Machine/Timers.lean ====
section
/-! DEFINITION. The expiries, each the effect of a count of second marks, or of the link timeout, that has run out, and the
commands of the table that are these expiries. SECOND_MARK takes the same expiries at the mark that lowers a count to 0. A
command of this file SAYS that its count has run out: it has its effect where the state runs that count, whatever is left
of it, and none elsewhere (log entry 7). -/

namespace Sys2Proof.Machine

/-! ## Lines -/

/-- The answer window expires in ANSWERING: the NO CARRIER fault (R9). -/
def State.answerWindowExpires (s : State) (p : Port) : State :=
  if (s.line p).state = .answering then s.takeFault p .noCarrier else s

/-- The speed window expires in SEARCHING: the NO SPEED fault (R12). -/
def State.speedWindowExpires (s : State) (p : Port) : State :=
  if (s.line p).state = .searching then s.takeFault p .noSpeed else s

/-- The drain limit of DROPPING runs out: the unsent output is discarded and the line goes on hook (R15). -/
def State.drainLimitExpires (s : State) (p : Port) : State :=
  if (s.line p).state = .dropping then s.dropWithoutMessage p .idle else s

/-- A line leaves GUARD for its after-guard destination (R16, R63, R64). -/
def Line.leaveGuard (l : Line) : Line :=
  match l.destination with
  | .idle => l.enterIdle
  | .resting i => { l with state := .resting, window := some (retryPeriod i), destination := .idle }
  | .latched => { l with state := .latched, window := none, destination := .idle }

/-- The guard time expires (R16). -/
def State.guardTimeExpires (s : State) (p : Port) : State :=
  if (s.line p).state = .guard then s.mapLine p Line.leaveGuard else s

/-- The retry period of a RESTING line expires: IDLE, with a RESTORED event (R63). -/
def State.retryPeriodExpires (s : State) (p : Port) : State :=
  if (s.line p).state = .resting then (s.mapLine p Line.enterIdle).raiseEvent p .restored else s

/-- A noise window expires: the count is cleared and the window restarts with the length in force (R52). -/
def Line.restartNoise (l : Line) (length : Nat) : Line := { l with noiseCount := 0, noiseWindow := some length }

/-- The noise window of a CONNECTED line expires (R52). -/
def State.noiseWindowExpires (s : State) (p : Port) : State :=
  if (s.line p).state = .connected then s.mapLine p (fun l => l.restartNoise s.limits.noiseWindow) else s

/-- Whichever window the line's state runs expires (R3). -/
def State.windowExpires (s : State) (p : Port) : State :=
  match (s.line p).state with
  | .answering => s.answerWindowExpires p
  | .searching => s.speedWindowExpires p
  | .dropping => s.drainLimitExpires p
  | .guard => s.guardTimeExpires p
  | .resting => s.retryPeriodExpires p
  | _ => s

/-! ## Accounts and dialogues -/

/-- A timed lock runs out: the account is OPEN, its repeats kept (R83). -/
def Account.unlockTimed (a : Account) : Account :=
  match a.lock with
  | .lockedTimed _ => { a with lock := .open }
  | _ => a

/-- A timed lock expires (R83). -/
def State.lockExpires (s : State) (a : Nat) : State := s.mapAccount a Account.unlockTimed

/-- The sign-on limit expires in GREETING or ENTRY: GOODBYE, and a drop with message (R99). -/
def State.signOnLimitExpires (s : State) (p : Port) : State :=
  match (s.line p).dialogue with
  | none => s
  | some d =>
    if d.phase = .greeting ∨ d.phase = .entry then (s.queueMessage p slotGoodbye).farewell p else s

/-- The wait limit of a waiting line expires: it leaves the queue, with GOODBYE and a drop with message (R104). -/
def State.waitLimitExpires (s : State) (p : Port) : State :=
  match (s.line p).dialogue with
  | none => s
  | some d => if d.phase = .waiting then (s.queueMessage p slotGoodbye).farewell p else s

/-! ## Sessions -/

/-- The hold of a HELD session expires: it closes HOLD EXPIRED (R117). -/
def State.holdExpires (s : State) (n : Nat) : State :=
  match s.findSession n with
  | none => s
  | some x => if x.state = .held then s.closeAndAct n .holdExpired else s

/-- The idle limit of an OPEN session is reached: it closes IDLE (R115). With an idle limit of 0 nothing follows. -/
def State.idleLimitExpires (s : State) (n : Nat) : State :=
  match s.findSession n with
  | none => s
  | some x => if x.state = .open ∧ x.snapshot.record.idleLimit ≠ 0 then s.closeAndAct n .idle else s

/-- The funds grace of an OPEN session ends: it closes FUNDS EXHAUSTED (R151). -/
def State.graceExpires (s : State) (n : Nat) : State :=
  match s.findSession n with
  | none => s
  | some x => if x.state = .open ∧ x.grace.isSome = true then s.closeAndAct n .fundsExhausted else s

/-- The closing countdown of an OPEN session ends: it closes CLOSED HOURS (R151). -/
def State.countdownExpires (s : State) (n : Nat) : State :=
  match s.findSession n with
  | none => s
  | some x => if x.state = .open ∧ x.countdown.isSome = true then s.closeAndAct n .closedHours else s

/-! ## The host -/

/-- Every session closes with cause HOST LOST, one after another, in the order of this draw, each with its line action
(R120, log entry 2). -/
def State.loseSessions (s : State) : State :=
  (s.drawOrder (s.sessions.map (·.number))).foldl (fun q n => q.closeAndAct n .hostLost) s.nextDraw

/-- The host-down limit expires while DOWN (R120, R176). -/
def State.hostDownLimitExpires (s : State) : State :=
  if s.link.host = .down ∧ s.link.downRemaining.isSome = true then
    ({ s with link := { s.link with downRemaining := none, downExpired := true } }).loseSessions
  else s

/-- The link timeout expires: the host state becomes DOWN (R175). -/
def State.linkTimeoutExpires (s : State) : State :=
  if s.link.host = .up ∧ s.link.timeoutRunning = true then s.hostDown else s

/-! ## The commands -/

/-- ANSWER_WINDOW_EXPIRY (R9). -/
def execAnswerWindowExpiry (p : Port) (s : State) : Host.Outcome State Fault Refusal := .next (s.answerWindowExpires p)

/-- SPEED_WINDOW_EXPIRY (R12). -/
def execSpeedWindowExpiry (p : Port) (s : State) : Host.Outcome State Fault Refusal := .next (s.speedWindowExpires p)

/-- DRAIN_LIMIT_EXPIRY (R15). -/
def execDrainLimitExpiry (p : Port) (s : State) : Host.Outcome State Fault Refusal := .next (s.drainLimitExpires p)

/-- GUARD_TIME_EXPIRY (R16). -/
def execGuardTimeExpiry (p : Port) (s : State) : Host.Outcome State Fault Refusal := .next (s.guardTimeExpires p)

/-- RETRY_PERIOD_EXPIRY (R63). -/
def execRetryPeriodExpiry (p : Port) (s : State) : Host.Outcome State Fault Refusal := .next (s.retryPeriodExpires p)

/-- NOISE_WINDOW_EXPIRY (R52). -/
def execNoiseWindowExpiry (p : Port) (s : State) : Host.Outcome State Fault Refusal := .next (s.noiseWindowExpires p)

/-- LOCK_TIMER_EXPIRY (R83). -/
def execLockTimerExpiry (a : Nat) (s : State) : Host.Outcome State Fault Refusal := .next (s.lockExpires a)

/-- SIGN_ON_LIMIT_EXPIRY (R99). -/
def execSignOnLimitExpiry (p : Port) (s : State) : Host.Outcome State Fault Refusal := .next (s.signOnLimitExpires p)

/-- WAIT_LIMIT_EXPIRY (R104). -/
def execWaitLimitExpiry (p : Port) (s : State) : Host.Outcome State Fault Refusal := .next (s.waitLimitExpires p)

/-- HOLD_EXPIRY (R117). -/
def execHoldExpiry (n : Nat) (s : State) : Host.Outcome State Fault Refusal := .next (s.holdExpires n)

/-- IDLE_LIMIT_EXPIRY (R115). -/
def execIdleLimitExpiry (n : Nat) (s : State) : Host.Outcome State Fault Refusal := .next (s.idleLimitExpires n)

/-- FUNDS_GRACE_EXPIRY (R151). -/
def execFundsGraceExpiry (n : Nat) (s : State) : Host.Outcome State Fault Refusal := .next (s.graceExpires n)

/-- CLOSING_COUNTDOWN_EXPIRY (R151). -/
def execClosingCountdownExpiry (n : Nat) (s : State) : Host.Outcome State Fault Refusal := .next (s.countdownExpires n)

/-- HOST_DOWN_LIMIT_EXPIRY (R176). -/
def execHostDownLimitExpiry (s : State) : Host.Outcome State Fault Refusal := .next s.hostDownLimitExpires

/-- LINK_TIMEOUT_EXPIRY (R175). -/
def execLinkTimeoutExpiry (s : State) : Host.Outcome State Fault Refusal := .next s.linkTimeoutExpires

end Sys2Proof.Machine
end

