-- ==== Sys2Proof/Machine/Timebase.lean ====
section
/-! DEFINITION. The Timebase: POWER_UP and SECOND_MARK (R3, R114, R129, R145, R180). A mark is taken in two parts: the
clock is advanced and every count of marks is lowered; then what has run out expires, every session takes its share of the
mark, and at a minute mark the Tariff Unit takes its own, one after another, in the order of this draw (log entry 2). -/

namespace Sys2Proof.Machine

/-! ## Power-up (R180) -/

/-- A line record at power-up; the levels of its two inputs are the outside's and stay as they are (R1, log entry 3). -/
def Line.powerUp (l : Line) : Line := { ringInput := l.ringInput, carrierInput := l.carrierInput }

/-- Every block takes its power-up values (R180); the waiting commands and the number of free orders drawn are no state of
the part. -/
def State.powerUp (s : State) : State :=
  { State.reset with lines := s.lines.map Line.powerUp, draws := s.draws, pending := s.pending }

/-- POWER_UP (R180). -/
def execPowerUp (s : State) : Host.Outcome State Fault Refusal := .next s.powerUp

/-! ## Lowering the counts (R3, R52, R83, R99, R104, R176) -/

/-- The dialogue's limits one mark later: the sign-on limit where it runs, the wait limit in WAITING (R99, R104). -/
def Dialogue.countMark (d : Dialogue) : Dialogue :=
  { d with limit := match d.limit with
                    | .running n => .running (n - 1)
                    | x => x,
           waitLimit := d.waitLimit.map (· - 1) }

/-- A line's noise window one mark later: at the mark that lowers it to 0 it expires and restarts (R52). -/
def Line.countNoise (l : Line) (length : Nat) : Line :=
  match l.noiseWindow with
  | none => l
  | some n => if n ≤ 1 then l.restartNoise length else { l with noiseWindow := some (n - 1) }

/-- A line's counts one mark later; a window brought to 0 expires in the second part of the mark (R3, R52, R99, R104). -/
def Line.countMark (l : Line) (length : Nat) : Line :=
  { (l.countNoise length) with
    window := l.window.map (· - 1),
    holder := match l.holder with
              | .dialogue d => .dialogue d.countMark
              | h => h }

/-- A timed lock one mark later (R83). -/
def Account.countMark (a : Account) : Account :=
  match a.lock with
  | .lockedTimed n => { a with lock := .lockedTimed (n - 1) }
  | _ => a

/-- The link monitor one mark later: while DOWN, seconds down rise and the host-down limit falls (R176). -/
def Link.countMark (k : Link) : Link :=
  match k.host with
  | .up => k
  | .down => { k with secondsDown := restAt 65535 (k.secondsDown + 1), downRemaining := k.downRemaining.map (· - 1) }

/-- Every count of second marks outside the sessions, one mark later. -/
def State.countMark (s : State) : State :=
  { s with lines := s.lines.map (fun l => l.countMark s.limits.noiseWindow), accounts := s.accounts.map Account.countMark,
           link := s.link.countMark }

/-! ## A session's share (R114, R115, R117, R145) -/

/-- Idle seconds at a mark, after the charge: the warning a minute short of the limit, and at the limit the close (R115).
The second part says whether the session closed. -/
def State.countIdle (s : State) (n : Nat) : State × Bool :=
  match s.findSession n with
  | none => (s, false)
  | some x =>
    let idle := restAt 65535 (x.idle + 1)
    let s1 := s.mapSession n (fun y => { y with idle := idle })
    let limit := x.snapshot.record.idleLimit
    if limit ≠ 0 ∧ idle = limit * 60 then (s1.closeAndAct n .idle, true)
    else if 2 ≤ limit ∧ idle = limit * 60 - 60 ∧ x.idleWarned = false then
      ((s1.queueMessageTo x.boundLine slotIdleWarning).mapSession n (fun y => { y with idleWarned := true }), false)
    else (s1, false)

/-- A session's share of a second mark, as one operation in the state the session holds (R114): an OPEN session is metered,
charged and its idle seconds counted; a STALLED one counts a stalled second; a HELD one a held second, its hold falling
(R117). At a minute mark a session that has not closed re-latches, as far as it goes at this point of the mark (R145). -/
def State.sessionShare (s : State) (n : Nat) (countdownRan : Bool) (latch : Latch) : State :=
  match s.findSession n with
  | none => s
  | some x =>
    match x.state with
    | .open =>
      let s1 := s.mapSession n (fun y => { y with metered := restAt Config.maxMoney (y.metered + 1) })
      match s1.chargeSecond n countdownRan with
      | (s2, some c) => s2.closeAndAct n c
      | (s2, none) =>
        match s2.countIdle n with
        | (s3, true) => s3
        | (s3, false) => s3.relatch n latch
    | .stalled =>
      (s.mapSession n (fun y => { y with stalled := restAt Config.maxMoney (y.stalled + 1) })).relatch n latch
    | .held =>
      let s1 := s.mapSession n (fun y =>
        { y with heldSeconds := restAt Config.maxMoney (y.heldSeconds + 1), hold := y.hold.map (· - 1) })
      if x.hold.getD 0 ≤ 1 then s1.closeAndAct n .holdExpired else s1.relatch n latch

/-! ## The second part of a mark -/

/-- One of the things that fall together at a mark. -/
inductive MarkTask where
  /-- a line's window has run out (R3) -/
  | window (p : Port)
  /-- a dialogue's sign-on limit has run out (R99) -/
  | signOn (p : Port)
  /-- a waiting line's wait limit has run out (R104) -/
  | wait (p : Port)
  /-- an account's timed lock has run out (R83) -/
  | lock (a : Nat)
  /-- the host-down limit has run out (R176) -/
  | hostDown
  /-- a session's share (R114); whether its closing countdown was running before this mark (R151) -/
  | share (n : Nat) (countdownRan : Bool)
  deriving DecidableEq, Repr

/-- Whether a line's sign-on limit has run out. -/
def Line.signOnDue (l : Line) : Bool :=
  match l.dialogue with
  | some d => d.limit == .running 0
  | none => false

/-- Whether a line's wait limit has run out. -/
def Line.waitDue (l : Line) : Bool :=
  match l.dialogue with
  | some d => d.waitLimit == some 0
  | none => false

/-- What has run out at this mark, once the counts are lowered. -/
def State.dueTasks (s : State) : List MarkTask :=
  ((List.finRange 32).filter (fun p => (s.line p).window == some 0)).map .window
    ++ ((List.finRange 32).filter (fun p => (s.line p).signOnDue)).map .signOn
    ++ ((List.finRange 32).filter (fun p => (s.line p).waitDue)).map .wait
    ++ (s.accounts.filter (fun a => a.lock == .lockedTimed 0)).map (fun a => .lock a.number)
    ++ (if s.link.downRemaining = some 0 then [.hostDown] else [])

/-- The sessions' shares of a mark: those of the sessions in the table when the mark comes. -/
def State.shareTasks (s : State) : List MarkTask := s.sessions.map (fun x => .share x.number x.countdown.isSome)

/-- One of the things of a mark is taken, against the state the ones before it left: an expiry that another has made void
is not taken. -/
def State.runTask (s : State) (latch : Latch) : MarkTask → State
  | .window p => if (s.line p).window = some 0 then s.windowExpires p else s
  | .signOn p => if (s.line p).signOnDue then s.signOnLimitExpires p else s
  | .wait p => if (s.line p).waitDue then s.waitLimitExpires p else s
  | .lock a => s.lockExpires a
  | .hostDown => if s.link.downRemaining = some 0 then s.hostDownLimitExpires else s
  | .share n ran => s.sessionShare n ran latch

/-- The things of a mark, one after another. -/
def State.runTasks (s : State) (latch : Latch) (ts : List MarkTask) : State :=
  ts.foldl (fun q t => q.runTask latch t) s

/-! ## The mark -/

/-- Whether the mark that the clock stands before is a minute mark (R129). -/
def State.minuteDue (s : State) : Bool := s.tariff.clockValid && decide (s.tariff.clock.second = 59)

/-- Whether a task is the share of a session. -/
def MarkTask.isShareOf (n : Nat) : MarkTask → Bool
  | .share m _ => m == n
  | _ => false

/-- What a session re-latches with the Tariff Unit's share of a minute mark. Where its own share is still to come, that
re-latches both values; where it has been taken, it latched the multiplier from the band as that stood then, and the rate is
left to here; a session that a close before here has admitted has no share of this mark and takes both (R145, log entry 8). -/
def latchLeft (taken toCome : List MarkTask) (n : Nat) : Latch :=
  if toCome.any (·.isShareOf n) then .none
  else if taken.any (·.isShareOf n) then .rate
  else .both

/-- The Tariff Unit's share of a minute mark, with what is left of the re-latch of every session in the table: the current rates
are then those of the minute that begins (R129, R145). -/
def State.tariffShare (s : State) (wrapped : Bool) (taken toCome : List MarkTask) : State :=
  let s1 := s.minuteMark wrapped
  (s1.sessions.map (·.number)).foldl (fun q n => q.relatch n (latchLeft taken toCome n)) s1

/-- The things of a minute mark, one after another, with the Tariff Unit's share behind the first `k` of them. A session's
share that is taken before it latches the multiplier and leaves the rate to it (R145, R154, R165). -/
def State.runMinute (s : State) (wrapped : Bool) (k : Nat) (ts : List MarkTask) : State :=
  ((s.runTasks .multiplier (cut ts k).1).tariffShare wrapped (cut ts k).1 (cut ts k).2).runTasks .both (cut ts k).2

/-- A second mark (R3, R114, R129): the clock and the counts move on, and the things that fall together follow in the order of
this draw; at a minute mark the Tariff Unit's share comes at the place of this draw among them (log entry 2). -/
def State.secondMark (s : State) : State :=
  let s1 := s.advanceClock.countMark
  let tasks := s1.drawOrder (s1.dueTasks ++ s1.shareTasks)
  if s.minuteDue then s1.nextDraw.runMinute s.tariff.clock.wraps (Config.tariffPlace s.draws) tasks
  else s1.nextDraw.runTasks .none tasks

/-- SECOND_MARK (R129). -/
def execSecondMark (s : State) : Host.Outcome State Fault Refusal := .next s.secondMark

end Sys2Proof.Machine
end

