-- ==== Sys2Proof/Machine/Calls.lean ====
section
/-! DEFINITION. The Call Controller's events (chapter 1): ringing, answering, carrier, and the speed and parity search. The
part times these intervals on the signals, in milliseconds and microseconds; a command of this file says that such a time
has passed, and has its effect where the state times that interval (log entry 6). -/

namespace Sys2Proof.Machine

/-! ## Ringing (R4 to R7) -/

/-- The ring indicate input takes a new level: in IDLE and RINGING a presence is timed from its start, any absence ends it
and clears stuck hold, and in the OFF phase an absence is timed (R4, R7). -/
def Line.ringChange (l : Line) (present : Bool) : Line :=
  if l.ringInput = present then l
  else if l.state.watchesRing then
    if present then { l with ringInput := true, presenceTimed := true, absenceTimed := false }
    else { l with ringInput := false, presenceTimed := false, stuckHold := false, absenceTimed := decide (l.phase = .off) }
  else { l with ringInput := present }

/-- RING_INDICATE_CHANGE (R4, R7). -/
def execRingIndicateChange (p : Port) (present : Bool) (s : State) : Host.Outcome State Fault Refusal :=
  .next (s.mapLine p (fun l => l.ringChange present))

/-- The start of a ring: the burst is validated and the detector switches to OFF; an IDLE line enters RINGING with ring
count 0, and in RINGING the abandon timer stops (R4, R5, R6). -/
def Line.ringStart (l : Line) : Line :=
  if l.phase = .on ∧ l.presenceTimed = true then
    match l.state with
    | .idle => { l with state := .ringing, ringCount := 0, phase := .off }
    | .ringing => { l with phase := .off, abandonRunning := false }
    | _ => l
  else l

/-- RING_START (R5). -/
def execRingStart (p : Port) (s : State) : Host.Outcome State Fault Refusal := .next (s.mapLine p Line.ringStart)

/-- A line goes off hook to answer: the detector stops, the answer window starts, and carrier that is already present is
timed from this moment (R5, R8). -/
def Line.answer (l : Line) (window : Nat) : Line :=
  { l.stopDetector with state := .answering, ringCount := 0, window := some window,
                        carrierTiming := if l.carrierInput then .present else .none }

/-- The completion of a ring: the count rises, and the line answers when it equals the answer ring count; otherwise the
abandon timer starts (R4, R5, R6). -/
def State.ringCompletes (s : State) (p : Port) : State :=
  let l := s.line p
  if l.state = .ringing ∧ l.phase = .off ∧ l.absenceTimed = true then
    if l.ringCount + 1 = l.answerRingCount then
      (s.setLine p (l.answer s.limits.answerWindow)).raiseEvent p .answered
    else s.setLine p { l with ringCount := l.ringCount + 1, phase := .on, absenceTimed := false, abandonRunning := true }
  else s

/-- RING_COMPLETION (R5). -/
def execRingCompletion (p : Port) (s : State) : Host.Outcome State Fault Refusal := .next (s.ringCompletes p)

/-- The abandon timer expires: the caller has abandoned the call (R6). -/
def Line.abandon (l : Line) : Line :=
  if l.state = .ringing ∧ l.abandonRunning = true then l.enterIdle else l

/-- ABANDON_TIMER_EXPIRY (R6). -/
def execAbandonTimerExpiry (p : Port) (s : State) : Host.Outcome State Fault Refusal := .next (s.mapLine p Line.abandon)

/-- A presence of ring that is timed has lasted 8 s: the RING STUCK fault, in IDLE and RINGING (R7, R51). -/
def State.ringSticks (s : State) (p : Port) : State :=
  if (s.line p).state.watchesRing = true ∧ (s.line p).presenceTimed = true then s.takeRingStuck p else s

/-- RING_STUCK (R7). -/
def execRingStuck (p : Port) (s : State) : Host.Outcome State Fault Refusal := .next (s.ringSticks p)

/-! ## Carrier (R8, R9, R13) -/

/-- What the new level of the carrier detect input starts or stops (R8): the present timing in ANSWERING, the loss timing
once carrier has been qualified present. -/
def LineState.carrierTimingAt (st : LineState) (present : Bool) : CarrierTiming :=
  match st with
  | .answering => if present then .present else .none
  | .searching => if present then .none else .loss
  | .connected => if present then .none else .loss
  | .dropping => if present then .none else .loss
  | _ => .none

/-- CARRIER_DETECT_CHANGE (R8). -/
def execCarrierDetectChange (p : Port) (present : Bool) (s : State) : Host.Outcome State Fault Refusal :=
  .next (s.mapLine p (fun l =>
    if l.carrierInput = present then l
    else { l with carrierInput := present, carrierTiming := l.state.carrierTimingAt present }))

/-- Carrier is qualified present in ANSWERING: the search begins, with its window (R9). -/
def State.carrierQualifies (s : State) (p : Port) : State :=
  let l := s.line p
  if l.state = .answering ∧ l.carrierTiming = .present then
    s.setLine p { l with state := .searching, carrierTiming := .none, searchAttempts := 0, settling := false,
                         window := some s.limits.speedWindow }
  else s

/-- CARRIER_QUALIFIED_PRESENT (R9). -/
def execCarrierQualifiedPresent (p : Port) (s : State) : Host.Outcome State Fault Refusal := .next (s.carrierQualifies p)

/-- Carrier is qualified lost: in SEARCHING and CONNECTED the call ends at once, whatever holds a CONNECTED line being told
first; in DROPPING the drain ends (R13, R15). -/
def State.carrierLost (s : State) (p : Port) : State :=
  let l := s.line p
  if l.carrierTiming = .loss then
    match l.state with
    | .searching => (s.goOnHook p .idle).raiseEvent p (.callEnded .carrierLost)
    | .connected => ((s.tellHolder p .carrierLost).goOnHook p .idle).raiseEvent p (.callEnded .carrierLost)
    | .dropping => (s.goOnHook p .idle).raiseEvent p (.callEnded .carrierLost)
    | _ => s
  else s

/-- CARRIER_QUALIFIED_LOST (R13). -/
def execCarrierQualifiedLost (p : Port) (s : State) : Host.Outcome State Fault Refusal := .next (s.carrierLost p)

/-! ## The search (R10 to R12) -/

/-- A line enters CONNECTED: speed and parity are set, the character fields take their call-start values and the first noise
window begins (R11, R23, R52); the dialogue is in GREETING with its sign-on limit running (R88, R89). A loss of carrier that
is being timed goes on being timed (R8). -/
def Line.connect (l : Line) (sp : Speed) (par : Parity) (noise signOn : Nat) : Line :=
  { l.releaseCall with state := .connected, window := none, speed := some sp, parity := some par, noiseWindow := some noise,
                       carrierTiming := l.carrierTiming, holder := .dialogue ⟨.greeting, 0, .running signOn, none, none⟩ }

/-- The speed search succeeds (R11): the line is CONNECTED, SPEED FOUND is raised, and the dialogue begins with BANNER and
PROMPT (R89). -/
def State.speedFound (s : State) (p : Port) (sp : Speed) (par : Parity) : State :=
  let s1 := s.mapLine p (fun l => l.connect sp par s.limits.noiseWindow s.limits.signOn)
  (((s1.raiseEvent p (.speedFound sp par)).queueMessage p slotBanner).queueMessage p slotPrompt)

/-- SPEED_FOUND (R11): a width that matches a speed, in SEARCHING and not while the search waits to settle. -/
def execSpeedFound (p : Port) (width : Nat) (eighth : Bool) (s : State) : Host.Outcome State Fault Refusal :=
  .next (if (s.line p).state = .searching ∧ (s.line p).settling = false then
      match matchSpeed width with
      | some sp => s.speedFound p sp (searchParity eighth)
      | none => s
    else s)

/-- A search attempt fails: the third is the NO SPEED fault, and after another the search waits to settle (R12). -/
def State.attemptFails (s : State) (p : Port) : State :=
  let l := s.line p
  if l.state = .searching ∧ l.settling = false then
    let s1 := s.setLine p { l with searchAttempts := l.searchAttempts + 1, settling := true }
    if l.searchAttempts + 1 < 3 then s1 else s1.takeFault p .noSpeed
  else s

/-- Whether what was measured is a failure of the search (R12). -/
def isFailure : SearchFailure → Bool
  | .noWindow w => (matchSpeed w).isNone
  | .notReturn w c => (matchSpeed w).isSome && c != chCr
  | .stopSpace w => (matchSpeed w).isSome

/-- SEARCH_ATTEMPT_FAILED (R12). -/
def execSearchAttemptFailed (p : Port) (f : SearchFailure) (s : State) : Host.Outcome State Fault Refusal :=
  .next (if isFailure f then s.attemptFails p else s)

/-- SETTLE_INTERVAL (R12): the search takes the next start bit. -/
def execSettleInterval (p : Port) (s : State) : Host.Outcome State Fault Refusal :=
  .next (s.mapLine p (fun l => if l.state = .searching then { l with settling := false } else l))

end Sys2Proof.Machine
end

