-- ==== Sys2Proof/Machine/Characters.lean ====
section
/-! DEFINITION. The Character Handler's events (chapter 2): received characters, breaks and long spaces, and the sending of
the output queue. -/

namespace Sys2Proof.Machine

/-! ## Received characters (R24 to R37) -/

/-- A character or break on an OPEN session is a sign of life: idle seconds become 0 and idle warned is cleared (R26, R115). -/
def State.signalLife (s : State) (p : Port) : State :=
  match (s.line p).holder with
  | .session n =>
    s.mapSession n (fun x => if x.state = .open then { x with idle := 0, idleWarned := false } else x)
  | _ => s

/-- The echoes of one character: the echo itself where echo is on, and BEL whatever the setting (R28). -/
def State.sendEcho (s : State) (p : Port) (on : Bool) (r : Assembled) : State :=
  let s1 := if on then s.appendEcho p r.echo else s
  if r.bell then s1.sendBel p else s1

/-- A character assembled during a session (R27 to R35): the echo is sent, and a record that ended is offered to the host
(R37); pending settings take effect when the record ends or is killed (R48). -/
def State.assembleInput (s : State) (p : Port) (n : Nat) (c : Code) : State :=
  let l := s.line p
  let r := l.partialRecord.assemble l.settings false c
  let s1 := (s.setLine p { l with partialRecord := r.rest }).sendEcho p l.echo r
  match r.ended with
  | none => if c = chCan then s1.mapLine p Line.applyPending else s1
  | some st =>
    (s1.mapLine p (fun k => { k with partialRecord := {} }.applyPending)).offerRecord p n
      ⟨st, false, r.rest.marks, r.rest.buffer⟩

/-- A character assembled in ENTRY under the sign-on settings; a record that ended is judged (R36, R91). -/
def State.assembleSignOn (s : State) (p : Port) (d : Dialogue) (c : Code) : State :=
  let l := s.line p
  let r := l.partialRecord.assemble signOnSettings true c
  match r.ended with
  | none => (s.setLine p { l with partialRecord := r.rest }).sendEcho p true r
  | some st =>
    ((s.setLine p { l with partialRecord := {} }).sendEcho p true r).judgeRecord p d r.rest.buffer r.rest.marks st

/-- A received character that was not discarded is dealt with by what holds the line (R26). -/
def State.deliver (s : State) (p : Port) (c : Code) : State :=
  match (s.line p).holder with
  | .none => s
  | .dialogue d =>
    match d.phase with
    | .greeting => s
    | .entry => s.assembleSignOn p d c
    | .waiting => s.sendBel p
    | .farewell => s
  | .session n =>
    match s.findSession n with
    | none => s
    | some x =>
      match x.state with
      | .open => if (s.line p).waitingRecord.isSome then s.sendBel p else s.assembleInput p n c
      | .stalled => s.sendBel p
      | .held => s

/-- Whether a received character is an error character (R25). -/
def Line.isError (l : Line) (c : Code) (bit framing : Bool) : Bool :=
  framing || (l.parityCheck && match l.parity with
                               | some q => parityError q c bit
                               | none => false)

/-- A character is received (R24 to R26). In CONNECTED it is a sign of life, an error character is counted (R53) and, if the
call goes on, substituted or discarded; in DROPPING it is discarded. DESIGN CHOICE, unsafe (log entry 24): where State shows a
pending break, whose space has had its held character discarded (R24), a character that a command brings is taken as one of a
later space, and what State shows of the space before is dropped. -/
def State.receive (s : State) (p : Port) (c : Code) (bit framing : Bool) : State :=
  match (s.line p).state with
  | .connected =>
    let s1 := (s.mapLine p (fun l => { l with space := .none })).signalLife p
    if (s.line p).isError c bit framing then
      match s1.countError p with
      | (s2, true) => s2
      | (s2, false) => if (s.line p).substitute then s2.deliver p substituteCode else s2
    else s1.deliver p c
  | .dropping => s.mapLine p (fun l => { l with space := .none })
  | _ => s

/-- CHARACTER_RECEIVED (R26): the first stop bit was mark, also with a pending break in State (log entry 24, DESIGN CHOICE). -/
def execCharacterReceived (p : Port) (c : Code) (bit : Bool) (s : State) : Host.Outcome State Fault Refusal :=
  .next (s.receive p c bit false)

/-- HELD_CHARACTER_RECEIVED (R24): the input returned to mark before 200 ms, a framing error. It is that also with a pending
break in State (log entry 24, DESIGN CHOICE). -/
def execHeldCharacterReceived (p : Port) (c : Code) (bit : Bool) (s : State) : Host.Outcome State Fault Refusal :=
  .next (s.receive p c bit true)

/-! ## Break and long space (R40 to R42) -/

/-- BREAK_PENDING (R40): a space has reached 200 ms in CONNECTED or DROPPING. -/
def execBreakPending (p : Port) (s : State) : Host.Outcome State Fault Refusal :=
  .next (s.mapLine p (fun l =>
    if l.state = .connected ∨ l.state = .dropping then { l with space := .breakPending } else l))

/-- The break record of an OPEN session: the partial record is emptied, the output queue discarded, and a break record made
under the mode in force before any pending settings take effect; it takes the place of a waiting record, or goes the way of
any record (R41, R47, R48). -/
def State.breakRecord (s : State) (p : Port) (n : Nat) : State :=
  let l := s.line p
  let r : InputRecord := ⟨l.settings.breakStatus, true, [], []⟩
  let s1 := (s.mapLine p (fun k => { k with partialRecord := {} }.applyPending)).discardOutput p
  if l.waitingRecord.isSome then s1.mapLine p (fun k => { k with waitingRecord := some r })
  else s1.offerRecord p n r

/-- A break acts by what holds the line (R41). -/
def State.breakActs (s : State) (p : Port) : State :=
  match (s.line p).holder with
  | .none => s
  | .dialogue d => if d.phase = .entry then s.assembleSignOn p d chCan else s
  | .session n =>
    match s.findSession n with
    | none => s
    | some x => if x.state = .open then (s.signalLife p).breakRecord p n else s

/-- BREAK (R41): the input returns to mark between 200 ms and 2 s. A space that reached 2 s is never a break (R40), and in
DROPPING no break is acted on. -/
def execBreakReceived (p : Port) (s : State) : Host.Outcome State Fault Refusal :=
  .next (if (s.line p).space = .longSpace then s.mapLine p (fun l => { l with space := .none })
    else
      let s1 := s.mapLine p (fun l => { l with space := .none })
      if (s.line p).state = .connected then s1.breakActs p else s1)

/-- LONG_SPACE (R42): a space reaches 2 s; in CONNECTED it is the LONG SPACE fault, and it cancels the pending break. -/
def execLongSpace (p : Port) (s : State) : Host.Outcome State Fault Refusal :=
  .next (match (s.line p).state with
    | .connected => (s.mapLine p (fun l => { l with space := .longSpace })).takeFault p .longSpace
    | .dropping => s.mapLine p (fun l => { l with space := .longSpace })
    | _ => s)

/-! ## Sending (R43, R44, R46) -/

/-- The bits of a character on the transmit data output, at the line's speed and parity (R43). -/
def Line.bitsOf (l : Line) (c : Code) : List Bool :=
  match l.speed, l.parity with
  | some sp, some q => sentBits sp q c
  | _, _ => []

/-- The line sends its next character (R43, R44): a fill NUL while any is due; then the head of the output queue, which
leaves it as its start bit begins, a CR bringing fill and the final LF of a part message being remembered until the message
is reported; and with the queue and the fill all sent, the output rests at mark. -/
def Line.sendNext (l : Line) : Line :=
  match l.fill, l.output with
  | k + 1, _ => { l with fill := k, transmit := l.bitsOf chNul }
  | 0, [] => { l with transmit := [] }
  | 0, c :: rest =>
    { l with output := rest,
             unreported := match c.ends with
                           | some m => l.unreported ++ [m]
                           | none => l.unreported,
             transmit := l.bitsOf c.code,
             fill := match l.speed with
                     | some sp => if c.code = chCr then sp.fillCount else 0
                     | none => 0 }

/-- The time of one character begins: the line sends its next one, with DRAINED where the queue's length has fallen far
enough (R43, R46). -/
def State.sendCharacter (s : State) (p : Port) : State :=
  let s1 := s.mapLine p Line.sendNext
  if (s1.line p).output.length < (s.line p).output.length then s1.drainedTest p else s1

/-- CHARACTER_SENT (R43): in CONNECTED and DROPPING. -/
def execCharacterSent (p : Port) (s : State) : Host.Outcome State Fault Refusal :=
  .next (if (s.line p).state = .connected ∨ (s.line p).state = .dropping then s.sendCharacter p else s)

/-- The oldest part message whose final LF has left the queue has been sent, and is reported (R44). None when that is
another message or none. -/
def Line.reportMessage (l : Line) (m : Slot) : Option Line :=
  match l.unreported with
  | [] => none
  | x :: rest => if x = m then some { l with unreported := rest } else none

/-- The end of GREETING, told by the PROMPT having been sent (R89). -/
def Line.endGreeting (l : Line) (m : Slot) : Line :=
  match l.holder with
  | .dialogue d =>
    if d.phase = .greeting ∧ m = slotPrompt then { l with holder := .dialogue { d with phase := .entry } } else l
  | _ => l

/-- PART_MESSAGE_SENT (R44, R89). -/
def execPartMessageSent (p : Port) (m : Slot) (s : State) : Host.Outcome State Fault Refusal :=
  .next (if (s.line p).state = .connected ∨ (s.line p).state = .dropping then
      match (s.line p).reportMessage m with
      | some l => s.setLine p (l.endGreeting m)
      | none => s
    else s)

/-- DROP_DRAINED (R15): a DROPPING line has sent its whole queue and fill; it goes on hook with CALL ENDED, reason DROPPED. -/
def execDropDrained (p : Port) (s : State) : Host.Outcome State Fault Refusal :=
  .next (if (s.line p).state = .dropping ∧ (s.line p).output = [] ∧ (s.line p).fill = 0 then
      s.dropWithoutMessage p .idle
    else s)

end Sys2Proof.Machine
end

