-- ==== Sys2Proof/Machine/LineOrders.lean ====
section
/-! DEFINITION. The orders on lines (R18 to R21, R48). The three rows of LINE SERVICE are one KIND and so are the two of SET
LINE: what a frame does is read from its body, and each row of the table is the frame with its own action or group. -/

namespace Sys2Proof.Machine

/-! ## LINE SERVICE (R18) -/

/-- The actions of LINE SERVICE (11.1). -/
inductive ServiceAction where
  | into | out | restore
  deriving DecidableEq, Repr

/-- The action of a code: 0 IN, 1 OUT, 2 RESTORE (11.1). -/
def readAction (b : Byte) : Option ServiceAction :=
  match b.toNat with
  | 0 => some .into | 1 => some .out | 2 => some .restore | _ => none

/-- LINE SERVICE IN: a line in OUT OF SERVICE enters IDLE if the clock is valid and the active table present (R18). -/
def State.serviceIn (s : State) (p : Port) : State :=
  if (s.line p).state = .outOfService then
    if s.tariff.clockValid = true ∧ s.tariff.activePresent = true then
      (s.mapLine p Line.enterIdle).placeReply 0x20#8 .done []
    else s.refuse 0x20#8 .notReady
  else s.placeReply 0x20#8 .done []

/-- What a CONNECTED line's holder meets when its line goes out of service: its session closes LINE REMOVED, or its dialogue
ends (R18). -/
def State.removeHolder (s : State) (p : Port) : State :=
  if (s.line p).state = .connected then
    match (s.line p).holder with
    | .session n => s.closeSession n .lineRemoved false
    | .dialogue _ => s.endDialogue p
    | .none => s
  else s

/-- A line's record put out of service; an off-hook line goes on hook as it goes (R18). -/
def Line.outOfService (l : Line) : Line :=
  let k := if l.state.offHook then l.releaseCall else l
  { k.stopDetector with state := .outOfService, ringCount := 0, window := none, destination := .idle }

/-- LINE SERVICE OUT: the line enters OUT OF SERVICE from any state, an off-hook line with CALL ENDED, reason REMOVED (R18). -/
def State.serviceOut (s : State) (p : Port) : State :=
  if (s.line p).state = .outOfService then s
  else
    let s1 := (s.removeHolder p).mapLine p Line.outOfService
    let s2 := { s1 with inputWait := s1.inputWait.filter (· ≠ p), waitQueue := s1.waitQueue.filter (· ≠ p) }
    if (s.line p).state.offHook then s2.raiseEvent p (.callEnded .removed) else s2

/-- LINE SERVICE RESTORE: a line in LATCHED or RESTING enters IDLE, its retry count 0, with a RESTORED event (R18). -/
def State.serviceRestore (s : State) (p : Port) : State :=
  match (s.line p).state with
  | .latched => (s.mapLine p (fun l => { l.enterIdle with retryCount := 0 })).raiseEvent p .restored
  | .resting => (s.mapLine p (fun l => { l.enterIdle with retryCount := 0 })).raiseEvent p .restored
  | _ => s

/-- The line and the action that LINE SERVICE carries, if they are ones it can carry (R18). -/
def readService (body : List Byte) : Option (Port × ServiceAction) :=
  match body with
  | [l, a] =>
    match readLine l, readAction a with
    | some p, some x => some (p, x)
    | _, _ => none
  | _ => none

/-- LINE SERVICE's own rule (R18). -/
def orderLineService (body : List Byte) (s : State) : State :=
  match readService body with
  | some (p, .into) => s.serviceIn p
  | some (p, .out) => (s.serviceOut p).placeReply 0x20#8 .done []
  | some (p, .restore) => (s.serviceRestore p).placeReply 0x20#8 .done []
  | none => s.refuse 0x20#8 .badValue

/-! ## SET LINE (R20, R48) -/

/-- The settings of the call group (R20). -/
structure CallGroup where
  parityCheck : Bool
  substitute : Bool
  rings : Nat
  deriving DecidableEq, Repr

/-- The settings of the input group (R48), the separator as sent. -/
structure InputGroup where
  echo : Bool
  settings : AssemblySettings
  separator : Byte
  deriving DecidableEq, Repr

/-- The line states that accept the call group (R20). -/
def LineState.acceptsCallGroup : LineState → Bool
  | .outOfService => true | .idle => true | .resting => true | .latched => true | _ => false

/-- SET LINE with the call group, on a line that the order names (R20). -/
def State.setCallGroup (s : State) (p : Port) (g : CallGroup) : State :=
  if (s.line p).state.acceptsCallGroup then
    (s.mapLine p (fun l => { l with parityCheck := g.parityCheck, substitute := g.substitute,
                                    answerRingCount := clampTo 1 8 g.rings })).placeReply 0x21#8
      (doneOr (clampTo 1 8 g.rings ≠ g.rings)) []
  else s.refuse 0x21#8 .busy

/-- Assembly settings given to a line: in force at once where the partial record is empty and no record waits, and otherwise
held as pending (R48). -/
def Line.takeSettings (l : Line) (a : AssemblySettings) : Line :=
  if l.partialRecord = {} ∧ l.waitingRecord = none then { l with settings := a, pendingSettings := none }
  else { l with pendingSettings := some a }

/-- Whether a byte is a separator's code, 33 to 126 (R48). -/
def isSeparator (b : Byte) : Bool := decide (33 ≤ b.toNat) && decide (b.toNat ≤ 126)

/-- The settings of an input group as stored: count N within 1 to 128, the separator as sent (R48). -/
def InputGroup.stored (g : InputGroup) : AssemblySettings :=
  { g.settings with countN := clampTo 1 128 g.settings.countN, separator := BitVec.setWidth 7 g.separator }

/-- SET LINE with the input group, on a line that the order names, in the order of R48's table. -/
def State.setInputGroup (s : State) (p : Port) (g : InputGroup) : State :=
  match (s.line p).holder with
  | .session _ =>
    if isSeparator g.separator then
      (s.mapLine p (fun l => { l with echo := g.echo }.takeSettings g.stored)).placeReply 0x21#8
        (doneOr (g.stored.countN ≠ g.settings.countN)) []
    else s.refuse 0x21#8 .badValue
  | _ => s.refuse 0x21#8 .notFound

/-- The call group of three bytes, its flags 0 or 1 (R181). -/
def readCallGroup (c u n : Byte) : Option CallGroup :=
  match readFlag c, readFlag u with
  | some check, some sub => some ⟨check, sub, n.toNat⟩
  | _, _ => none

/-- The input group of six bytes, its flags 0 or 1 and its mode listed (R181). -/
def readInputGroup (e m n c f x : Byte) : Option InputGroup :=
  match readFlag e, readAssemblyMode m, readFlag c, readFlag f with
  | some echo, some mode, some endAt, some marks =>
    some ⟨echo, { mode := mode, countN := n.toNat, endAtCount := endAt, marking := marks }, x⟩
  | _, _, _, _ => none

/-- SET LINE's own rule: the group says how long the body is (R20, R48, R181). -/
def orderSetLine (body : List Byte) (s : State) : State :=
  match body with
  | [l, g, c, u, n] =>
    if g = 0#8 then
      match readCallGroup c u n, readLine l with
      | some x, some p => s.setCallGroup p x
      | _, _ => s.refuse 0x21#8 .badValue
    else s.refuse 0x21#8 .badValue
  | [l, g, e, m, n, c, f, x] =>
    if g = 1#8 then
      match readInputGroup e m n c f x, readLine l with
      | some y, some p => s.setInputGroup p y
      | _, _ => s.refuse 0x21#8 .badValue
    else s.refuse 0x21#8 .badValue
  | _ => s.refuse 0x21#8 .badValue

/-! ## DROP LINE (R19) -/

/-- The line that an order of one byte names, if it is one (1.8). -/
def readNamedLine (body : List Byte) : Option Port :=
  match body with
  | [l] => readLine l
  | _ => none

/-- The call of a CONNECTED line ended by DROP LINE: its session closes HOST ENDED, or its dialogue ends and the line is
dropped without message (R19). -/
def State.dropConnected (s : State) (p : Port) : State :=
  match (s.line p).holder with
  | .session n => s.closeAndAct n .hostEnded
  | .dialogue _ => (s.endDialogue p).dropWithoutMessage p .idle
  | .none => s.dropWithoutMessage p .idle

/-- DROP LINE on a line that the order names (R19). -/
def State.dropCall (s : State) (p : Port) : State :=
  match (s.line p).state with
  | .answering => (s.dropWithoutMessage p .idle).placeReply 0x22#8 .done []
  | .searching => (s.dropWithoutMessage p .idle).placeReply 0x22#8 .done []
  | .connected => (s.dropConnected p).placeReply 0x22#8 .done []
  | _ => s.refuse 0x22#8 .notFound

/-- DROP LINE's own rule (R19). -/
def orderDropLine (body : List Byte) (s : State) : State :=
  match readNamedLine body with
  | some p => s.dropCall p
  | none => s.refuse 0x22#8 .badValue

/-! ## QUERY LINE (R21) -/

/-- QUERY LINE's own rule (R21, R49, R66, R88). -/
def orderQueryLine (body : List Byte) (s : State) : State :=
  match readNamedLine body with
  | some p => s.placeReply 0x23#8 .done (s.lineBytes p)
  | none => s.refuse 0x23#8 .badValue

end Sys2Proof.Machine
end

