-- ==== Sys2Proof/Machine/AccountOrders.lean ====
section
/-! DEFINITION. The orders on accounts (4.3: R71 to R78). -/

namespace Sys2Proof.Machine

/-- Whether a number is an account number, 1 to 999,999 (R69). -/
def isAccountNumber (n : Nat) : Bool := decide (1 ≤ n) && decide (n ≤ 999999)

/-- The account number of three bytes, if it is one (4.3). -/
def readAccountNumber (bs : List Byte) : Option Nat := if isAccountNumber (beNat bs) then some (beNat bs) else none

/-! ## LOAD ACCOUNT (R71 to R73, R75) -/

/-- What LOAD ACCOUNT carries, with its quantities already replaced (R71). -/
structure Loaded where
  number : Nat
  classNo : Fin 4
  check : Nat
  balance : Nat
  limit : Nat
  clamped : Bool
  deriving DecidableEq, Repr

/-- What LOAD ACCOUNT carries, if its number, check value and class are ones it can carry (R71). -/
def readLoaded (body : List Byte) : Option Loaded :=
  match body with
  | [a2, a1, a0, c, k1, k0, b3, b2, b1, b0, l] =>
    match readAccountNumber [a2, a1, a0], readClass c with
    | some number, some cls =>
      if beNat [k1, k0] ≤ 65520 then
        some ⟨number, cls, beNat [k1, k0], clampTo 0 Config.maxMoney (beNat [b3, b2, b1, b0]), clampTo 1 4 l.toNat,
          decide (Config.maxMoney < beNat [b3, b2, b1, b0] ∨ clampTo 1 4 l.toNat ≠ l.toNat)⟩
      else none
    | _, _ => none
  | _ => none

/-- A record in its place in ascending order of account number (R68). -/
def insertAccount (a : Account) : List Account → List Account
  | [] => [a]
  | x :: rest => if a.number < x.number then a :: x :: rest else x :: insertAccount a rest

/-- The new record of an account (R72). -/
def Loaded.fresh (x : Loaded) : Account :=
  { number := x.number, classNo := x.classNo, check := x.check, balance := x.balance, limit := x.limit }

/-- A record with its loaded fields replaced (R73). -/
def Loaded.overwrite (x : Loaded) (a : Account) : Account :=
  { a with classNo := x.classNo, check := x.check, balance := x.balance, limit := x.limit }

/-- Whether a replacement is accepted (R73). -/
def Loaded.accepted (x : Loaded) (a : Account) : Bool :=
  a.active == 0 || (x.classNo == a.classNo && decide (a.active ≤ x.limit))

/-- The reply of a carried-out LOAD ACCOUNT: replaced or inserted, and the records in the table (R71). -/
def State.loadReply (s : State) (x : Loaded) (replaced : Bool) : State :=
  s.placeReply 0x10#8 (doneOr x.clamped) (flagByte replaced :: beBytes 2 s.accounts.length)

/-- LOAD ACCOUNT on what it carries: inserted (R72), or replaced (R73, R75). -/
def State.loadAccount (s : State) (x : Loaded) : State :=
  match s.findAccount x.number with
  | none =>
    if Config.maxAccounts ≤ s.accounts.length then s.refuse 0x10#8 .full
    else ({ s with accounts := insertAccount x.fresh s.accounts }).loadReply x false
  | some a =>
    if x.accepted a then
      ((s.mapAccount x.number x.overwrite).balanceChanged x.number a.balance x.balance).loadReply x true
    else s.refuse 0x10#8 .inUse

/-- LOAD ACCOUNT's own rule (R71). -/
def orderLoadAccount (body : List Byte) (s : State) : State :=
  match readLoaded body with
  | some x => s.loadAccount x
  | none => s.refuse 0x10#8 .badValue

/-! ## CREDIT ACCOUNT (R74, R75) -/

/-- The account number and the amount that CREDIT ACCOUNT carries, if they are ones it can carry (R74). -/
def readCredit (body : List Byte) : Option (Nat × Int) :=
  match body with
  | [a2, a1, a0, m3, m2, m1, m0] =>
    match readAccountNumber [a2, a1, a0] with
    | some number =>
      if -16777215 ≤ beSigned [m3, m2, m1, m0] ∧ beSigned [m3, m2, m1, m0] ≤ 16777215 then
        some (number, beSigned [m3, m2, m1, m0])
      else none
    | none => none
  | _ => none

/-- The balance after a credit, which saturates at either bound (R74, R84). -/
def creditBalance (balance : Nat) (amount : Int) : Nat :=
  if (balance : Int) + amount < 0 then 0
  else if (Config.maxMoney : Int) < balance + amount then Config.maxMoney
  else ((balance : Int) + amount).toNat

/-- Whether a credit saturates (R74). -/
def creditClamped (balance : Nat) (amount : Int) : Bool :=
  decide ((balance : Int) + amount < 0 ∨ (Config.maxMoney : Int) < balance + amount)

/-- CREDIT ACCOUNT's own rule (R74). -/
def orderCreditAccount (body : List Byte) (s : State) : State :=
  match readCredit body with
  | none => s.refuse 0x11#8 .badValue
  | some (number, amount) =>
    match s.findAccount number with
    | none => s.refuse 0x11#8 .notFound
    | some a =>
      ((s.mapAccount number (fun x => { x with balance := creditBalance a.balance amount })).balanceChanged number a.balance
        (creditBalance a.balance amount)).placeReply 0x11#8 (doneOr (creditClamped a.balance amount))
        (beBytes 3 (creditBalance a.balance amount))

/-! ## DROP ACCOUNT (R76) -/

/-- The account number that an order of three bytes names, if it is one (4.3). -/
def readNamedAccount (body : List Byte) : Option Nat :=
  match body with
  | [a2, a1, a0] => readAccountNumber [a2, a1, a0]
  | _ => none

/-- The table without the record of a number (R68). -/
def State.removeAccount (s : State) (number : Nat) : State :=
  { s with accounts := s.accounts.eraseP (fun x => x.number == number) }

/-- DROP ACCOUNT's own rule (R76). -/
def orderDropAccount (body : List Byte) (s : State) : State :=
  match readNamedAccount body with
  | none => s.refuse 0x12#8 .badValue
  | some number =>
    match s.findAccount number with
    | none => s.refuse 0x12#8 .notFound
    | some a =>
      if 0 < a.active then s.refuse 0x12#8 .inUse
      else
        (s.removeAccount number).placeReply 0x12#8 .done (beBytes 2 (s.removeAccount number).accounts.length)

/-! ## UNLOCK ACCOUNT (R77) -/

/-- A record unlocked by the host (R77). -/
def Account.unlock (a : Account) : Account := { a with lock := .open, failures := 0, lockRepeats := 0 }

/-- UNLOCK ACCOUNT's own rule (R77). -/
def orderUnlockAccount (body : List Byte) (s : State) : State :=
  match readNamedAccount body with
  | none => s.refuse 0x13#8 .badValue
  | some number =>
    match s.findAccount number with
    | none => s.refuse 0x13#8 .notFound
    | some _ => (s.mapAccount number Account.unlock).placeReply 0x13#8 .done []

/-! ## QUERY ACCOUNT (R78) -/

/-- A query form (11.1). -/
inductive QueryForm where
  | exact | following
  deriving DecidableEq, Repr

/-- The query form of a code: 0 EXACT, 1 NEXT (11.1). -/
def readForm (b : Byte) : Option QueryForm := if b = 0#8 then some .exact else if b = 1#8 then some .following else none

/-- The record that a query form finds in the account table, which stands in ascending order of number (R68, R78). -/
def State.queriedAccount (s : State) : QueryForm → Nat → Option Account
  | .exact, n => s.findAccount n
  | .following, n => s.accounts.find? (fun x => decide (n < x.number))

/-- The form and the number that QUERY ACCOUNT carries, if they are ones it can carry (R78). -/
def readAccountQuery (body : List Byte) : Option (QueryForm × Nat) :=
  match body with
  | [f, a2, a1, a0] =>
    match readForm f with
    | some .exact => (readAccountNumber [a2, a1, a0]).map (fun n => (.exact, n))
    | some .following => if beNat [a2, a1, a0] ≤ 999999 then some (.following, beNat [a2, a1, a0]) else none
    | none => none
  | _ => none

/-- QUERY ACCOUNT's own rule (R78). -/
def orderQueryAccount (body : List Byte) (s : State) : State :=
  match readAccountQuery body with
  | none => s.refuse 0x14#8 .badValue
  | some (f, n) =>
    match s.queriedAccount f n with
    | none => s.refuse 0x14#8 .notFound
    | some a => s.placeReply 0x14#8 .done (a.bytes ++ beBytes 2 s.accounts.length)

end Sys2Proof.Machine
end

