-- ==== Sys2Proof/Machine/PartOrders.lean ====
section
/-! DEFINITION. The orders on the part's own settings and RESTART (R56, R86, R130, R140, R172, R173, R174, R178, R179). An
order is read against its layout (11.3, R181), judged by its own rule, and answered with one reply (R168). -/

namespace Sys2Proof.Machine

/-! ## Clamping (R169) -/

/-- A byte's quantity brought into its range. -/
def clampByte (lo hi : Nat) (b : Byte) : Nat := clampTo lo hi b.toNat

/-- A two-byte quantity brought into its range. -/
def clampPair (lo hi : Nat) (b c : Byte) : Nat := clampTo lo hi (beNat [b, c])

/-! ## MARK (R178) -/

/-- The summary that MARK returns behind the tag, 12 bytes with it (R178, 11.4). -/
def State.markBytes (s : State) (tag : List Byte) : List Byte :=
  tag ++ [byteOf s.link.reports.length, flagByte s.link.lost, byteOf s.inputWait.length, byteOf s.slotsInUse,
    byteOf s.bills.length, flagByte s.tariff.clockValid] ++ s.tariff.clock.bytes

/-- MARK's own rule (R178). -/
def orderMark (body : List Byte) (s : State) : State :=
  match body with
  | [a, b] => s.placeReply 0x01#8 .done (s.markBytes [a, b])
  | _ => s.refuse 0x01#8 .badValue

/-! ## RESTART (R22, R127, R179) -/

/-- RESTART's first step: queued and waiting input and every report go, and the lost flag with them (R179). -/
def State.restartQueues (s : State) : State :=
  { s with lines := s.lines.map (fun l => if l.waitingRecord.isSome then l.clearWaiting else l), inputWait := [],
           link := { s.link with reports := [], lost := false } }

/-- A line's dialogue ends, if it has one. -/
def Line.dropDialogue (l : Line) : Line :=
  match l.holder with
  | .dialogue _ => { l with holder := .none }
  | _ => l

/-- RESTART's second step: every dialogue ends and the wait queue is emptied, without a message (R179). -/
def State.restartDialogues (s : State) : State := { s with lines := s.lines.map Line.dropDialogue, waitQueue := [] }

/-- RESTART's third step: every session closes with cause RESTART, one after another, in the order of this draw (R127,
R179, log entry 2). -/
def State.restartSessions (s : State) : State :=
  (s.drawOrder (s.sessions.map (·.number))).foldl (fun q n => q.closeSession n .restart true) s.nextDraw

/-- What RESTART does to a line, by its state; the retry count becomes 0 in every one (R22). -/
def Line.restart (l : Line) : Line :=
  { (match l.state with
     | .answering => { l.releaseCall with state := .guard, window := some Config.guardTime, destination := .idle }
     | .searching => { l.releaseCall with state := .guard, window := some Config.guardTime, destination := .idle }
     | .connected => { l.releaseCall with state := .guard, window := some Config.guardTime, destination := .idle }
     | .dropping => { l.releaseCall with state := .guard, window := some Config.guardTime, destination := .idle }
     | .guard => { l with destination := if l.destination = Destination.latched then .latched else .idle }
     | .resting => l.enterIdle
     | .idle => l
     | .ringing => l
     | .outOfService => l
     | .latched => l) with retryCount := 0 }

/-- RESTART's fifth step: the link monitor starts again with the host UP (R179). -/
def State.restartMonitor (s : State) : State :=
  ({ s with link := { s.link with host := .up, downRemaining := none, secondsDown := 0, downExpired := false } }).restartTimeout

/-- RESTART's steps 1 to 5 (R179). -/
def State.restartPart (s : State) : State :=
  let s1 := s.restartQueues.restartDialogues.restartSessions
  ({ s1 with lines := s1.lines.map Line.restart }).restartMonitor

/-- RESTART's own rule (R179). -/
def orderRestart (body : List Byte) (s : State) : State :=
  match body with
  | [] => s.restartPart.placeReply 0x02#8 .done []
  | _ => s.refuse 0x02#8 .badValue

/-! ## SET CLOCK (R130) -/

/-- The time of day that SET CLOCK carries, if it is one (R130). -/
def readTime (body : List Byte) : Option Time :=
  match body with
  | [d, m1, m0, x] =>
    if d.toNat ≤ 6 ∧ beNat [m1, m0] ≤ 1439 ∧ x.toNat ≤ 59 then some ⟨d.toNat, beNat [m1, m0], x.toNat⟩ else none
  | _ => none

/-- The clock is set (R130): it takes the time and is valid, a pending AT commit is judged against it, and the period of
its minute is selected. -/
def State.setClockTo (s : State) (t : Time) : State :=
  ({ s with tariff := { s.tariff with clock := t, clockValid := true,
                                      commit := s.tariff.commit.rejudge t.minuteOfWeek } }).selectPeriod

/-- SET CLOCK's own rule (R130). -/
def orderSetClock (body : List Byte) (s : State) : State :=
  match readTime body with
  | some t => (s.setClockTo t).placeReply 0x03#8 .done []
  | none => s.refuse 0x03#8 .badValue

/-! ## SET LIMITS (R173) -/

/-- The ten limits that SET LIMITS carries, as sent, if the body has its length. -/
def readLimits (body : List Byte) : Option Limits :=
  match body with
  | [a, b, c1, c0, d, e, f, g, h, i, j] =>
    some ⟨a.toNat, b.toNat, beNat [c1, c0], d.toNat, e.toNat, f.toNat, g.toNat, h.toNat, i.toNat, j.toNat⟩
  | _ => none

/-- The limits, each brought to the nearest bound of its range (R173). -/
def Limits.clamp (x : Limits) : Limits :=
  { answerWindow := clampTo 5 60 x.answerWindow, speedWindow := clampTo 10 60 x.speedWindow,
    signOn := clampTo 30 300 x.signOn, attempts := clampTo 1 5 x.attempts, wait := clampTo 0 30 x.wait,
    hostSlots := clampTo 1 32 x.hostSlots, linkTimeout := clampTo 0 60 x.linkTimeout, hostDown := clampTo 0 60 x.hostDown,
    noiseWindow := clampTo 5 60 x.noiseWindow, deglitch := clampTo 0 4 x.deglitch }

/-- The limits are stored; the link timeout takes its new value at once, and a raise of H above slots in use evaluates the
wait queue (R105, R173, R175). -/
def State.storeLimits (s : State) (x : Limits) : State :=
  let s1 := ({ s with link := { s.link with limits := x } }).restartTimeout
  if s.limits.hostSlots < x.hostSlots ∧ s1.slotsInUse < x.hostSlots then s1.evaluate else s1

/-- SET LIMITS' own rule (R173). -/
def orderSetLimits (body : List Byte) (s : State) : State :=
  match readLimits body with
  | some x => (s.storeLimits x.clamp).placeReply 0x04#8 (doneOr (x.clamp ≠ x)) x.clamp.bytes
  | none => s.refuse 0x04#8 .badValue

/-! ## SET REPORTS (R172) -/

/-- The five enables that SET REPORTS carries, each 0 or 1 (R172, R181). -/
def readEnables (body : List Byte) : Option Enables :=
  match body.mapM readFlag with
  | some [a, b, c, d, e] => some ⟨a, b, c, d, e⟩
  | _ => none

/-- SET REPORTS' own rule (R172). -/
def orderSetReports (body : List Byte) (s : State) : State :=
  match readEnables body with
  | some e => ({ s with link := { s.link with enables := e } }).placeReply 0x05#8 .done e.bytes
  | none => s.refuse 0x05#8 .badValue

/-! ## SET MESSAGE (R174) -/

/-- The text behind a length byte, where the length agrees, is within a bound, and every byte is a character (R181). -/
def readBoundedText (bound : Nat) (bs : List Byte) : Option (List Code) :=
  match bs with
  | n :: text => if text.length = n.toNat ∧ n.toNat ≤ bound then readText text else none
  | [] => none

/-- The message slot of an order, 0 to 13. -/
def readSlot (b : Byte) : Option Slot := if h : b.toNat < 14 then some ⟨b.toNat, h⟩ else none

/-- The slot and the text that SET MESSAGE carries, if they are ones it can carry (R174, R181). -/
def readMessage (body : List Byte) : Option (Slot × List Code) :=
  match body with
  | b :: rest =>
    match readSlot b, readBoundedText 64 rest with
    | some slot, some text => some (slot, text)
    | _, _ => none
  | [] => none

/-- SET MESSAGE's own rule (R174). -/
def orderSetMessage (body : List Byte) (s : State) : State :=
  match readMessage body with
  | some (slot, text) => ({ s with messages := s.messages.set slot text }).placeReply 0x06#8 .done []
  | none => s.refuse 0x06#8 .badValue

/-! ## SET FAULT POLICY (R56) -/

/-- The kind and the entry that SET FAULT POLICY carries, as sent, if the kind and the mode are listed; the noise limit of
a kind other than NOISE is not examined and not stored (R56, R181). -/
def readPolicy (body : List Byte) : Option (FaultKind × PolicyEntry) :=
  match body with
  | [k, m, i, r, n] =>
    match readFaultKind k, readPolicyMode m with
    | some kind, some mode => some (kind, ⟨mode, i.toNat, r.toNat, if kind = .noise then n.toNat else 0⟩)
    | _, _ => none
  | _ => none

/-- A policy entry with its quantities brought into their ranges (R56). -/
def PolicyEntry.clamp (k : FaultKind) (e : PolicyEntry) : PolicyEntry :=
  { e with periodIndex := clampTo 0 7 e.periodIndex, retryLimit := clampTo 0 15 e.retryLimit,
           noiseLimit := if k = .noise then clampTo 1 63 e.noiseLimit else e.noiseLimit }

/-- SET FAULT POLICY's own rule (R56). -/
def orderSetFaultPolicy (body : List Byte) (s : State) : State :=
  match readPolicy body with
  | some (k, e) =>
    ({ s with policies := s.policies.replace k (e.clamp k) }).placeReply 0x07#8 (doneOr (e.clamp k ≠ e))
      (policyBytes k (e.clamp k))
  | none => s.refuse 0x07#8 .badValue

/-! ## SET CLASS (R86) -/

/-- The minimum charge as stored: at most 255, then at most a non-zero cap (R86). -/
def storedMinimum (cap minimum : Nat) : Nat := if cap = 0 then min 255 minimum else min cap (min 255 minimum)

/-- A class record's quantities brought into their ranges (R86). -/
def ClassRecord.clamp (r : ClassRecord) : ClassRecord :=
  { r with minCharge := storedMinimum r.cap r.minCharge, grace := clampTo 0 600 r.grace,
           idleLimit := clampTo 0 120 r.idleLimit, failureLimit := clampTo 1 15 r.failureLimit,
           lockPeriod := clampTo 0 6 r.lockPeriod, repeatLimit := clampTo 1 7 r.repeatLimit,
           holdTime := clampTo 0 900 r.holdTime }

/-- The class and the record that SET CLASS carries, as sent, if the class and the lock policy are listed, and whether a
yes-or-no field was above 1 (R86). -/
def readClassOrder (body : List Byte) : Option (Fin 4 × ClassRecord × Bool) :=
  match body with
  | [c, fr, su, mi1, mi0, cp1, cp0, gr1, gr0, lo1, lo0, idl, fl, po, pe, re, ho1, ho0] =>
    match readClass c, readLockPolicy po with
    | some cls, some policy =>
      some (cls,
        { free := decide (fr ≠ 0#8), surcharge := decide (su ≠ 0#8), minCharge := beNat [mi1, mi0],
          cap := beNat [cp1, cp0], grace := beNat [gr1, gr0], lowFunds := beNat [lo1, lo0], idleLimit := idl.toNat,
          failureLimit := fl.toNat, lockPolicy := policy, lockPeriod := pe.toNat, repeatLimit := re.toNat,
          holdTime := beNat [ho1, ho0] },
        decide (1 < fr.toNat) || decide (1 < su.toNat))
    | _, _ => none
  | _ => none

/-- SET CLASS's own rule (R86). -/
def orderSetClass (body : List Byte) (s : State) : State :=
  match readClassOrder body with
  | some (c, r, flagged) =>
    ({ s with classes := s.classes.set c r.clamp }).placeReply 0x08#8 (doneOr (flagged || decide (r.clamp ≠ r)))
      (classBytes c r.clamp)
  | none => s.refuse 0x08#8 .badValue

/-! ## SET LOAD STEPS (R140) -/

/-- The load steps that SET LOAD STEPS carries, as sent, if the thresholds are ones it can carry (R140). -/
def readLoadSteps (body : List Byte) : Option LoadSteps :=
  match body with
  | [a, b, c, h, m0, m1, m2, m3] =>
    if 1 ≤ a.toNat ∧ a.toNat < b.toNat ∧ b.toNat < c.toNat ∧ c.toNat ≤ 32 then
      some ⟨a.toNat, b.toNat, c.toNat, h.toNat, m0.toNat, m1.toNat, m2.toNat, m3.toNat⟩
    else none
  | _ => none

/-- The load steps' quantities brought into their ranges (R140). -/
def LoadSteps.clamp (x : LoadSteps) : LoadSteps :=
  { x with h := clampTo 0 3 x.h, m0 := clampTo 16 64 x.m0, m1 := clampTo 16 64 x.m1, m2 := clampTo 16 64 x.m2,
           m3 := clampTo 16 64 x.m3 }

/-- The band that SET LOAD STEPS sets afresh (R140). -/
def LoadSteps.bandOf (x : LoadSteps) (u : Nat) : Nat :=
  if x.t3 ≤ u then 3 else if x.t2 ≤ u then 2 else if x.t1 ≤ u then 1 else 0

/-- The load steps are stored and the band is set afresh, with one LOAD BAND report if it has changed (R140). -/
def State.storeLoadSteps (s : State) (x : LoadSteps) : State :=
  let s1 := { s with tariff := { s.tariff with steps := x } }
  if x.bandOf s.slotsInUse = s.tariff.band then s1 else s1.setBand (x.bandOf s.slotsInUse) false

/-- SET LOAD STEPS' own rule (R140). -/
def orderSetLoadSteps (body : List Byte) (s : State) : State :=
  match readLoadSteps body with
  | some x =>
    (s.storeLoadSteps x.clamp).placeReply 0x09#8 (doneOr (x.clamp ≠ x))
      (x.clamp.bytes ++ [byteOf (x.clamp.bandOf s.slotsInUse)])
  | none => s.refuse 0x09#8 .badValue

end Sys2Proof.Machine
end

