-- ==== Sys2Proof/Machine/SessionOrders.lean ====
section
/-! DEFINITION. The orders on sessions and TAKE BILL (R45, R123, R124, R125, R163). -/

namespace Sys2Proof.Machine

/-! ## SEND TEXT (R45, R124) -/

/-- The session number, as sent, and the text that SEND TEXT carries, if the text is one it can carry (R124, R181). -/
def readSend (body : List Byte) : Option (Nat × List Code) :=
  match body with
  | n1 :: n0 :: rest => (readBoundedText 192 rest).map (fun t => (beNat [n1, n0], t))
  | _ => none

/-- The Character Handler's judgement of a host text: empty text is answered DONE and appends nothing, however long the
queue; other text joins the output queue whole, or is refused FULL and drain-wanted is set (R45). -/
def State.sendHostText (s : State) (p : Port) (text : List Code) : State :=
  if text = [] ∨ (s.line p).output.length + text.length ≤ Config.hostTextPlaces then
    (s.mapLine p (fun l => { l with output := l.output ++ text.map (fun c => { code := c }) })).placeReply 0x28#8 .done []
  else (s.mapLine p (fun l => { l with drainWanted := true })).refuse 0x28#8 .full

/-- SEND TEXT's own rule, in the order of R124's table. -/
def orderSendText (body : List Byte) (s : State) : State :=
  match readSend body with
  | none => s.refuse 0x28#8 .badValue
  | some (n, text) =>
    if n = 0 then s.refuse 0x28#8 .badValue
    else
      match s.findSession n with
      | none => s.refuse 0x28#8 .notFound
      | some x =>
        match x.boundLine with
        | none => s.refuse 0x28#8 .held
        | some p => if x.state = .held then s.refuse 0x28#8 .held else s.sendHostText p text

/-! ## END SESSION (R123) -/

/-- The session number that an order of two bytes names, if it is one (6.7). -/
def readNamedSession (body : List Byte) : Option Nat :=
  match body with
  | [n1, n0] => if beNat [n1, n0] = 0 then none else some (beNat [n1, n0])
  | _ => none

/-- END SESSION's own rule (R123). -/
def orderEndSession (body : List Byte) (s : State) : State :=
  match readNamedSession body with
  | none => s.refuse 0x29#8 .badValue
  | some n =>
    match s.findSession n with
    | none => s.refuse 0x29#8 .notFound
    | some _ =>
      (s.closeAndAct n .hostEnded).placeReply 0x29#8 .done (beBytes 2 n ++ [byteOf (Cause.code .hostEnded)])

/-! ## QUERY SESSION (R125) -/

/-- Of two session records, the one of the lower number. -/
def lowerNumber (x y : Session) : Session := if y.number < x.number then y else x

/-- The session of the least number above one given (R125). -/
def State.followingSession (s : State) (n : Nat) : Option Session :=
  match s.sessions.filter (fun x => decide (n < x.number)) with
  | [] => none
  | x :: xs => some (xs.foldl lowerNumber x)

/-- The record that a query form finds in the session table (R125). -/
def State.queriedSession (s : State) : QueryForm → Nat → Option Session
  | .exact, n => s.findSession n
  | .following, n => s.followingSession n

/-- The form and the number that QUERY SESSION carries, if they are ones it can carry (R125). -/
def readSessionQuery (body : List Byte) : Option (QueryForm × Nat) :=
  match body with
  | [f, n1, n0] =>
    match readForm f with
    | some .exact => (readNamedSession [n1, n0]).map (fun n => (.exact, n))
    | some .following => some (.following, beNat [n1, n0])
    | none => none
  | _ => none

/-- QUERY SESSION's own rule (R125). -/
def orderQuerySession (body : List Byte) (s : State) : State :=
  match readSessionQuery body with
  | none => s.refuse 0x2A#8 .badValue
  | some (f, n) =>
    match s.queriedSession f n with
    | none => s.refuse 0x2A#8 .notFound
    | some x => s.placeReply 0x2A#8 .done (x.bytes ++ [byteOf s.sessions.length])

/-! ## TAKE BILL (R163) -/

/-- TAKE BILL's own rule (R163). -/
def orderTakeBill (body : List Byte) (s : State) : State :=
  match body with
  | [] =>
    match s.bills with
    | [] => s.placeReply 0x30#8 .empty [0#8]
    | b :: rest => ({ s with bills := rest }).placeReply 0x30#8 .done (b.bytes ++ [byteOf rest.length])
  | _ => s.refuse 0x30#8 .badValue

end Sys2Proof.Machine
end

