-- ==== Sys2Proof/Machine/TariffOrders.lean ====
section
/-! DEFINITION. The orders on the tariff tables (R132 to R135, R142). -/

namespace Sys2Proof.Machine

/-! ## TARIFF CLEAR (R133) -/

/-- TARIFF CLEAR's own rule (R133). -/
def orderTariffClear (body : List Byte) (s : State) : State :=
  match body with
  | [] =>
    if s.tariff.commit = .none then
      ({ s with tariff := { s.tariff with standby := Vector.replicate 16 none } }).placeReply 0x18#8 .done []
    else s.refuse 0x18#8 .busy
  | _ => s.refuse 0x18#8 .badValue

/-! ## TARIFF ENTRY (R132) -/

/-- What TARIFF ENTRY carries behind its index and used field, as sent, with used yes. -/
structure SentEntry where
  days : BitVec 7
  start : Nat
  rates : Vector Nat 4
  deriving DecidableEq, Repr

/-- The day set of a byte: not empty, and without the bit of weight 128 (11.1, R181). -/
def readDays (b : Byte) : Option (BitVec 7) :=
  if b = 0#8 ∨ b.getLsbD 7 = true then none else some (BitVec.setWidth 7 b)

/-- What a TARIFF ENTRY body carries, read under R181: the index, and with used yes the fields behind it, which with used no
are not examined. -/
def readSentEntry (body : List Byte) : Option (Nat × Option SentEntry) :=
  match body with
  | [i, u, d, s1, s0, a1, a0, b1, b0, c1, c0, e1, e0] =>
    match readFlag u with
    | none => none
    | some false => some (i.toNat, none)
    | some true =>
      (readDays d).map (fun days =>
        (i.toNat, some ⟨days, beNat [s1, s0], #v[beNat [a1, a0], beNat [b1, b0], beNat [c1, c0], beNat [e1, e0]]⟩))
  | _ => none

/-- The entry that sent fields make, if its start minute and its rates are ones an entry can hold (R132). -/
def SentEntry.entry (x : SentEntry) : Option TariffEntry :=
  if x.start ≤ 1439 ∧ x.rates.toList.all (fun v => decide (v ≤ 4095)) = true then
    some ⟨x.days, x.start, x.rates.map readRate⟩
  else none

/-- The standby table with the entry of an index replaced. -/
def State.writeStandby (s : State) (i : Nat) (e : Option TariffEntry) : State :=
  { s with tariff := { s.tariff with standby := s.tariff.standby.setIfInBounds i e } }

/-- TARIFF ENTRY's own rule, in the order of R132's table. -/
def orderTariffEntry (body : List Byte) (s : State) : State :=
  match readSentEntry body with
  | none => s.refuse 0x19#8 .badValue
  | some (i, sent) =>
    if s.tariff.commit ≠ .none then s.refuse 0x19#8 .busy
    else if 15 < i then s.refuse 0x19#8 .badValue
    else
      match sent with
      | none => (s.writeStandby i none).placeReply 0x19#8 .done []
      | some x =>
        match x.entry with
        | none => s.refuse 0x19#8 .badValue
        | some e => (s.writeStandby i (some e)).placeReply 0x19#8 .done []

/-! ## COMMIT TARIFF (R134, R135) -/

/-- A commit that an order asks for: at the next minute mark, or at a minute of the week. -/
inductive CommitRequest where
  | nextMinute | at (target : Nat)
  deriving DecidableEq, Repr

/-- What COMMIT TARIFF carries, if it is one it can carry; with NEXT MINUTE the day and minute are not examined (R134,
R181). -/
def readCommit (body : List Byte) : Option CommitRequest :=
  match body with
  | [o, d, m1, m0] =>
    if o = 0#8 then some .nextMinute
    else if o = 1#8 ∧ d.toNat ≤ 6 ∧ beNat [m1, m0] ≤ 1439 then some (.at (d.toNat * 1440 + beNat [m1, m0]))
    else none
  | _ => none

/-- The pending commit of an accepted request: an AT commit awaits the week's wrap if its target is at or below the minute
of the week (R135). -/
def CommitRequest.pending (r : CommitRequest) (now : Nat) : Commit :=
  match r with
  | .nextMinute => .nextMinute
  | .at target => .at target (decide (target ≤ now))

/-- COMMIT TARIFF's own rule, in the order of R134's table. -/
def orderCommitTariff (body : List Byte) (s : State) : State :=
  match readCommit body with
  | none => s.refuse 0x1A#8 .badValue
  | some r =>
    if s.tariff.clockValid = false then s.refuse 0x1A#8 .notReady
    else if hasClash s.tariff.standby.used then s.refuse 0x1A#8 .duplicate
    else if s.tariff.standby.complete = false then s.refuse 0x1A#8 .incomplete
    else
      ({ s with tariff := { s.tariff with commit := r.pending s.tariff.clock.minuteOfWeek } }).placeReply 0x1A#8 .done []

/-! ## QUERY TARIFF (R142) -/

/-- QUERY TARIFF's own rule (R142). -/
def orderQueryTariff (body : List Byte) (s : State) : State :=
  match body with
  | [t] =>
    if t = 0#8 then s.placeReply 0x1B#8 .done (s.tariffBytes 0 s.tariff.active)
    else if t = 1#8 then s.placeReply 0x1B#8 .done (s.tariffBytes 1 s.tariff.standby)
    else s.refuse 0x1B#8 .badValue
  | _ => s.refuse 0x1B#8 .badValue

end Sys2Proof.Machine
end

