-- ==== Sys2Proof/Machine/LinkEvents.lean ====
section
/-! DEFINITION. The host link's two directions (R166 to R171): carrying out a complete frame, the inbound assembler and the
frames it discards or answers without carrying them out, and the sending of replies and reports. -/

namespace Sys2Proof.Machine

/-! ## Carrying out a frame (R167, R168) -/

/-- The order of a KIND that the table does not list: it changes nothing and is answered UNKNOWN (R168). -/
def orderUnknown (kind : Byte) (_ : List Byte) (s : State) : State := s.placeReply kind .unknown []

/-- The order of each KIND of R168's table; none for a KIND that names no order. -/
def orderFor (kind : Byte) : Option (List Byte → State → State) :=
  match kind.toNat with
  | 0x01 => some orderMark | 0x02 => some orderRestart | 0x03 => some orderSetClock | 0x04 => some orderSetLimits
  | 0x05 => some orderSetReports | 0x06 => some orderSetMessage | 0x07 => some orderSetFaultPolicy
  | 0x08 => some orderSetClass | 0x09 => some orderSetLoadSteps | 0x10 => some orderLoadAccount
  | 0x11 => some orderCreditAccount | 0x12 => some orderDropAccount | 0x13 => some orderUnlockAccount
  | 0x14 => some orderQueryAccount | 0x18 => some orderTariffClear | 0x19 => some orderTariffEntry
  | 0x1A => some orderCommitTariff | 0x1B => some orderQueryTariff | 0x20 => some orderLineService
  | 0x21 => some orderSetLine | 0x22 => some orderDropLine | 0x23 => some orderQueryLine | 0x28 => some orderSendText
  | 0x29 => some orderEndSession | 0x2A => some orderQuerySession | 0x30 => some orderTakeBill
  | _ => none

/-- Whether a frame's CHECK makes its sum 0 (R166). -/
def Frame.good (f : Frame) : Bool := frameSum f.kind f.body + f.check == 0#8

/-- A frame is carried out: judged for its CHECK, then as a good frame by its KIND (R167, R168). -/
def State.carryOut (s : State) (f : Frame) : State :=
  if f.good then
    match orderFor f.kind with
    | some order => order f.body s.goodFrame
    | none => orderUnknown f.kind f.body s.goodFrame
  else s.placeReply f.kind .check []

/-! ## Inbound (R166, R167, R168) -/

/-- What the assembler makes of the KIND and LENGTH bytes of a discarded frame, examined again as possible LEADs: a KIND of
C3h is the LEAD of a frame whose KIND is the LENGTH byte. A LENGTH above 240 is no C3h, so it is a LEAD itself in no case
(R167). -/
def reexamine (kind length : Byte) : Assembler :=
  if kind = Config.lead then .inFrame [Config.lead, length] else .hunting

/-- The inbound assembler takes a byte: what it then is, and the frame that the byte completes, if it completes one
(R167). -/
def Assembler.take (a : Assembler) (b : Byte) : Assembler × Option Frame :=
  match a with
  | .hunting => (if b = Config.lead then .inFrame [b] else .hunting, none)
  | .inFrame (x :: k :: n :: body) =>
    if body.length < n.toNat then (.inFrame (x :: k :: n :: body ++ [b]), none) else (.hunting, some ⟨k, body, b⟩)
  | .inFrame [x, k] => if 240 < b.toNat then (reexamine k b, none) else (.inFrame [x, k, b], none)
  | .inFrame [x] => (.inFrame [x, b], none)
  | .inFrame [] => (.inFrame [b], none)

/-- A frame is complete: behind a reply it becomes the held order, and otherwise it is met at once (R167). -/
def State.meetFrame (s : State) (f : Frame) (carry : State → State) : State :=
  if s.link.replyPath.isSome then { s with link := { s.link with heldOrder := some f } } else carry s

/-- The inbound side takes a byte; with an order held it is not ready and takes none (R167). -/
def State.takeByte (s : State) (b : Byte) : State :=
  if s.link.heldOrder.isSome then s
  else
    let s1 := { s with link := { s.link with assembler := (s.link.assembler.take b).1 } }
    match (s.link.assembler.take b).2 with
    | some f => s1.meetFrame f (·.carryOut f)
    | none => s1

/-- The inbound side takes bytes one after another. What comes behind a byte that left an order held is not taken (log
entry 9). -/
def State.takeBytes (s : State) (bs : List Byte) : State := bs.foldl State.takeByte s

/-- The bytes of a frame as received (R166). -/
def Frame.bytes (f : Frame) : List Byte :=
  Config.lead :: f.kind :: BitVec.ofNat 8 f.body.length :: f.body ++ [f.check]

/-- A frame that the host sends meets the inbound side. Hunting, the assembler finds its LEAD, and the frame is complete
with its last byte: `carry` is what carries it out. With a frame in assembly its bytes are that frame's first (R167). -/
def State.takeFrame (s : State) (f : Frame) (carry : State → State) : State :=
  if s.link.heldOrder.isSome then s
  else
    match s.link.assembler with
    | .hunting => s.meetFrame f carry
    | .inFrame _ => s.takeBytes f.bytes

/-- A good frame of an order's KIND with a body meets the inbound side; where it is carried out it acts on the link monitor,
and its order is then carried out whole (R167, R168). -/
def State.takeOrder (s : State) (kind : Byte) (body : List Byte) (order : List Byte → State → State) : State :=
  s.takeFrame ⟨kind, body, frameCheck kind body⟩ (fun q => order body q.goodFrame)

/-- FRAME_LENGTH_DISCARD (R167): the LEAD, KIND and LENGTH of a frame whose LENGTH is above 240, which is discarded without
reply. -/
def execFrameLengthDiscard (kind length : Byte) (s : State) : Host.Outcome State Fault Refusal :=
  .next (if length.toNat ≤ 240 then s else s.takeBytes [Config.lead, kind, length])

/-- FRAME_BAD_CHECK (R167): the frame is answered CHECK with its KIND, or becomes the held order. It is no good frame, so
the link monitor does not see it. -/
def execFrameBadCheck (kind : Byte) (body : List Byte) (check : Byte) (s : State) : Host.Outcome State Fault Refusal :=
  .next (s.takeFrame ⟨kind, body, check⟩ (fun q => q.placeReply kind .check []))

/-- UNKNOWN_KIND (R168): a good frame, so that it acts on the link monitor. -/
def execUnknownKind (kind : Byte) (body : List Byte) (s : State) : Host.Outcome State Fault Refusal :=
  .next (s.takeOrder kind body (orderUnknown kind))

/-! ## Outbound (R167, R170, R171) -/

/-- A reply's sending begins: it leaves the reply path, and a held order is carried out at once (R167, R170). -/
def State.sendReply (s : State) (r : Reply) : State :=
  let s1 := { s with link := { s.link with sending := r.frame, replyPath := none, heldOrder := none } }
  match s.link.heldOrder with
  | some f => s1.carryOut f
  | none => s1

/-- REPLY_SEND_START (R170); with an empty reply path there is no reply to send. -/
def execReplySendStart (s : State) : Host.Outcome State Fault Refusal :=
  .next (match s.link.replyPath with
    | some r => s.sendReply r
    | none => s)

/-- The head report's sending begins: it leaves the queue carrying the lost flag, which is cleared, and the input wait list
is looked at for the entry that is free (R38, R171). -/
def State.sendReport (s : State) (r : Report) (rest : List Report) : State :=
  let s1 := { s with link := { s.link with sending := r.frame s.link.lost, reports := rest, lost := false } }
  State.releaseInput s1 s1.inputWait

/-- REPORT_SEND_START (R171): a report's sending begins only with no reply on the reply path (R170). -/
def execReportSendStart (s : State) : Host.Outcome State Fault Refusal :=
  .next (match s.link.replyPath, s.link.reports with
    | none, r :: rest => s.sendReport r rest
    | _, _ => s)

end Sys2Proof.Machine
end

