-- ==== Sys2Proof/Machine/HostOrders.lean ====
section
/-! DEFINITION. The commands that are a good frame of one order (R167, R168): each frame meets the inbound side as every
frame does, and its order is its own. -/

namespace Sys2Proof.Machine

/-! ## Orders on the part -/

/-- MARK (R178). -/
def execMark (body : List Byte) (s : State) : Host.Outcome State Fault Refusal := .next (s.takeOrder 0x01#8 body orderMark)

/-- RESTART (R179). -/
def execRestart (body : List Byte) (s : State) : Host.Outcome State Fault Refusal :=
  .next (s.takeOrder 0x02#8 body orderRestart)

/-- SET_CLOCK (R130). -/
def execSetClock (body : List Byte) (s : State) : Host.Outcome State Fault Refusal :=
  .next (s.takeOrder 0x03#8 body orderSetClock)

/-- SET_LIMITS (R173). -/
def execSetLimits (body : List Byte) (s : State) : Host.Outcome State Fault Refusal :=
  .next (s.takeOrder 0x04#8 body orderSetLimits)

/-- SET_REPORTS (R172). -/
def execSetReports (body : List Byte) (s : State) : Host.Outcome State Fault Refusal :=
  .next (s.takeOrder 0x05#8 body orderSetReports)

/-- SET_MESSAGE (R174). -/
def execSetMessage (body : List Byte) (s : State) : Host.Outcome State Fault Refusal :=
  .next (s.takeOrder 0x06#8 body orderSetMessage)

/-- SET_FAULT_POLICY (R56). -/
def execSetFaultPolicy (body : List Byte) (s : State) : Host.Outcome State Fault Refusal :=
  .next (s.takeOrder 0x07#8 body orderSetFaultPolicy)

/-- SET_CLASS (R86). -/
def execSetClass (body : List Byte) (s : State) : Host.Outcome State Fault Refusal :=
  .next (s.takeOrder 0x08#8 body orderSetClass)

/-- SET_LOAD_STEPS (R140). -/
def execSetLoadSteps (body : List Byte) (s : State) : Host.Outcome State Fault Refusal :=
  .next (s.takeOrder 0x09#8 body orderSetLoadSteps)

/-! ## Orders on accounts -/

/-- LOAD_ACCOUNT (R71). -/
def execLoadAccount (body : List Byte) (s : State) : Host.Outcome State Fault Refusal :=
  .next (s.takeOrder 0x10#8 body orderLoadAccount)

/-- CREDIT_ACCOUNT (R74). -/
def execCreditAccount (body : List Byte) (s : State) : Host.Outcome State Fault Refusal :=
  .next (s.takeOrder 0x11#8 body orderCreditAccount)

/-- DROP_ACCOUNT (R76). -/
def execDropAccount (body : List Byte) (s : State) : Host.Outcome State Fault Refusal :=
  .next (s.takeOrder 0x12#8 body orderDropAccount)

/-- UNLOCK_ACCOUNT (R77). -/
def execUnlockAccount (body : List Byte) (s : State) : Host.Outcome State Fault Refusal :=
  .next (s.takeOrder 0x13#8 body orderUnlockAccount)

/-- QUERY_ACCOUNT (R78). -/
def execQueryAccount (body : List Byte) (s : State) : Host.Outcome State Fault Refusal :=
  .next (s.takeOrder 0x14#8 body orderQueryAccount)

/-! ## Orders on tariffs -/

/-- TARIFF_CLEAR (R133). -/
def execTariffClear (body : List Byte) (s : State) : Host.Outcome State Fault Refusal :=
  .next (s.takeOrder 0x18#8 body orderTariffClear)

/-- TARIFF_ENTRY (R132). -/
def execTariffEntry (body : List Byte) (s : State) : Host.Outcome State Fault Refusal :=
  .next (s.takeOrder 0x19#8 body orderTariffEntry)

/-- COMMIT_TARIFF (R134). -/
def execCommitTariff (body : List Byte) (s : State) : Host.Outcome State Fault Refusal :=
  .next (s.takeOrder 0x1A#8 body orderCommitTariff)

/-- QUERY_TARIFF (R142). -/
def execQueryTariff (body : List Byte) (s : State) : Host.Outcome State Fault Refusal :=
  .next (s.takeOrder 0x1B#8 body orderQueryTariff)

/-! ## Orders on lines -/

/-- LINE_SERVICE_IN (R18): the frame whose action is 0. -/
def execLineServiceIn (body : List Byte) (s : State) : Host.Outcome State Fault Refusal :=
  .next (s.takeOrder 0x20#8 body orderLineService)

/-- LINE_SERVICE_OUT (R18): the frame whose action is 1. -/
def execLineServiceOut (body : List Byte) (s : State) : Host.Outcome State Fault Refusal :=
  .next (s.takeOrder 0x20#8 body orderLineService)

/-- LINE_SERVICE_RESTORE (R18): the frame whose action is 2. -/
def execLineServiceRestore (body : List Byte) (s : State) : Host.Outcome State Fault Refusal :=
  .next (s.takeOrder 0x20#8 body orderLineService)

/-- SET_LINE_CALL (R20): the frame whose group is 0. -/
def execSetLineCall (body : List Byte) (s : State) : Host.Outcome State Fault Refusal :=
  .next (s.takeOrder 0x21#8 body orderSetLine)

/-- SET_LINE_INPUT (R48): the frame whose group is 1. -/
def execSetLineInput (body : List Byte) (s : State) : Host.Outcome State Fault Refusal :=
  .next (s.takeOrder 0x21#8 body orderSetLine)

/-- DROP_LINE (R19). -/
def execDropLine (body : List Byte) (s : State) : Host.Outcome State Fault Refusal :=
  .next (s.takeOrder 0x22#8 body orderDropLine)

/-- QUERY_LINE (R21). -/
def execQueryLine (body : List Byte) (s : State) : Host.Outcome State Fault Refusal :=
  .next (s.takeOrder 0x23#8 body orderQueryLine)

/-! ## Orders on sessions and bills -/

/-- SEND_TEXT (R124). -/
def execSendText (body : List Byte) (s : State) : Host.Outcome State Fault Refusal :=
  .next (s.takeOrder 0x28#8 body orderSendText)

/-- END_SESSION (R123). -/
def execEndSession (body : List Byte) (s : State) : Host.Outcome State Fault Refusal :=
  .next (s.takeOrder 0x29#8 body orderEndSession)

/-- QUERY_SESSION (R125). -/
def execQuerySession (body : List Byte) (s : State) : Host.Outcome State Fault Refusal :=
  .next (s.takeOrder 0x2A#8 body orderQuerySession)

/-- TAKE_BILL (R163). -/
def execTakeBill (body : List Byte) (s : State) : Host.Outcome State Fault Refusal :=
  .next (s.takeOrder 0x30#8 body orderTakeBill)

end Sys2Proof.Machine
end

