-- ==== Sys2Proof/Machine/Dispatch.lean ====
section
/-! DEFINITION. The meaning of each command: one arm for each row of spec/opcode_table.json, in the table's order. -/

namespace Sys2Proof.Machine

def exec (i : Instr) (s : State) : Host.Outcome State Fault Refusal :=
  match i with
  | .powerUp => Sys2Proof.Machine.execPowerUp s
  | .secondMark => Sys2Proof.Machine.execSecondMark s
  | .answerWindowExpiry line => Sys2Proof.Machine.execAnswerWindowExpiry line s
  | .speedWindowExpiry line => Sys2Proof.Machine.execSpeedWindowExpiry line s
  | .drainLimitExpiry line => Sys2Proof.Machine.execDrainLimitExpiry line s
  | .guardTimeExpiry line => Sys2Proof.Machine.execGuardTimeExpiry line s
  | .retryPeriodExpiry line => Sys2Proof.Machine.execRetryPeriodExpiry line s
  | .noiseWindowExpiry line => Sys2Proof.Machine.execNoiseWindowExpiry line s
  | .lockTimerExpiry account => Sys2Proof.Machine.execLockTimerExpiry account s
  | .signOnLimitExpiry line => Sys2Proof.Machine.execSignOnLimitExpiry line s
  | .waitLimitExpiry line => Sys2Proof.Machine.execWaitLimitExpiry line s
  | .holdExpiry session => Sys2Proof.Machine.execHoldExpiry session s
  | .idleLimitExpiry session => Sys2Proof.Machine.execIdleLimitExpiry session s
  | .fundsGraceExpiry session => Sys2Proof.Machine.execFundsGraceExpiry session s
  | .closingCountdownExpiry session => Sys2Proof.Machine.execClosingCountdownExpiry session s
  | .hostDownLimitExpiry => Sys2Proof.Machine.execHostDownLimitExpiry s
  | .linkTimeoutExpiry => Sys2Proof.Machine.execLinkTimeoutExpiry s
  | .ringIndicateChange line present => Sys2Proof.Machine.execRingIndicateChange line present s
  | .ringStart line => Sys2Proof.Machine.execRingStart line s
  | .ringCompletion line => Sys2Proof.Machine.execRingCompletion line s
  | .abandonTimerExpiry line => Sys2Proof.Machine.execAbandonTimerExpiry line s
  | .ringStuck line => Sys2Proof.Machine.execRingStuck line s
  | .carrierDetectChange line present => Sys2Proof.Machine.execCarrierDetectChange line present s
  | .carrierQualifiedPresent line => Sys2Proof.Machine.execCarrierQualifiedPresent line s
  | .carrierQualifiedLost line => Sys2Proof.Machine.execCarrierQualifiedLost line s
  | .speedFound line width eighth => Sys2Proof.Machine.execSpeedFound line width eighth s
  | .searchAttemptFailed line failure => Sys2Proof.Machine.execSearchAttemptFailed line failure s
  | .settleInterval line => Sys2Proof.Machine.execSettleInterval line s
  | .characterReceived line code parityBit => Sys2Proof.Machine.execCharacterReceived line code parityBit s
  | .heldCharacterReceived line code parityBit => Sys2Proof.Machine.execHeldCharacterReceived line code parityBit s
  | .breakPending line => Sys2Proof.Machine.execBreakPending line s
  | .breakReceived line => Sys2Proof.Machine.execBreakReceived line s
  | .longSpace line => Sys2Proof.Machine.execLongSpace line s
  | .characterSent line => Sys2Proof.Machine.execCharacterSent line s
  | .partMessageSent line slot => Sys2Proof.Machine.execPartMessageSent line slot s
  | .dropDrained line => Sys2Proof.Machine.execDropDrained line s
  | .frameLengthDiscard kind length => Sys2Proof.Machine.execFrameLengthDiscard kind length s
  | .frameBadCheck kind body check => Sys2Proof.Machine.execFrameBadCheck kind body check s
  | .unknownKind kind body => Sys2Proof.Machine.execUnknownKind kind body s
  | .replySendStart => Sys2Proof.Machine.execReplySendStart s
  | .reportSendStart => Sys2Proof.Machine.execReportSendStart s
  | .mark body => Sys2Proof.Machine.execMark body s
  | .restart body => Sys2Proof.Machine.execRestart body s
  | .setClock body => Sys2Proof.Machine.execSetClock body s
  | .setLimits body => Sys2Proof.Machine.execSetLimits body s
  | .setReports body => Sys2Proof.Machine.execSetReports body s
  | .setMessage body => Sys2Proof.Machine.execSetMessage body s
  | .setFaultPolicy body => Sys2Proof.Machine.execSetFaultPolicy body s
  | .setClass body => Sys2Proof.Machine.execSetClass body s
  | .setLoadSteps body => Sys2Proof.Machine.execSetLoadSteps body s
  | .loadAccount body => Sys2Proof.Machine.execLoadAccount body s
  | .creditAccount body => Sys2Proof.Machine.execCreditAccount body s
  | .dropAccount body => Sys2Proof.Machine.execDropAccount body s
  | .unlockAccount body => Sys2Proof.Machine.execUnlockAccount body s
  | .queryAccount body => Sys2Proof.Machine.execQueryAccount body s
  | .tariffClear body => Sys2Proof.Machine.execTariffClear body s
  | .tariffEntry body => Sys2Proof.Machine.execTariffEntry body s
  | .commitTariff body => Sys2Proof.Machine.execCommitTariff body s
  | .queryTariff body => Sys2Proof.Machine.execQueryTariff body s
  | .lineServiceIn body => Sys2Proof.Machine.execLineServiceIn body s
  | .lineServiceOut body => Sys2Proof.Machine.execLineServiceOut body s
  | .lineServiceRestore body => Sys2Proof.Machine.execLineServiceRestore body s
  | .setLineCall body => Sys2Proof.Machine.execSetLineCall body s
  | .setLineInput body => Sys2Proof.Machine.execSetLineInput body s
  | .dropLine body => Sys2Proof.Machine.execDropLine body s
  | .queryLine body => Sys2Proof.Machine.execQueryLine body s
  | .sendText body => Sys2Proof.Machine.execSendText body s
  | .endSession body => Sys2Proof.Machine.execEndSession body s
  | .querySession body => Sys2Proof.Machine.execQuerySession body s
  | .takeBill body => Sys2Proof.Machine.execTakeBill body s

end Sys2Proof.Machine
end

