-- ==== Sys2Proof/WellFormed.lean ====
section
/-! DEFINITION. Which commands can come: the operands' ranges where their types do not already give them, and the
conditions that a row of the table states on its event. The meanings are total and do not depend on this. -/

namespace Sys2Proof

open Sys2Proof.Machine

/-- A frame's body is at most 240 bytes (R166). -/
def bodyFits (body : List Byte) : Bool := decide (body.length ≤ 240)

/-- A session number, 1 to 65,535 (R111). -/
def isSessionNumber (n : Nat) : Bool := decide (1 ≤ n) && decide (n ≤ 65535)

/-- A LINE SERVICE body that is not the frame of another row: it does not carry another action's code (R18). -/
def isServiceBody (action : Byte) (body : List Byte) : Bool :=
  match body with
  | [_, a] => a == action || (readAction a).isNone
  | _ => true

/-- A SET LINE body that is not the frame of the other row: it is not of the other group's length and code (R181). -/
def isSetLineBody (group : Byte) (body : List Byte) : Bool :=
  match body with
  | [_, g, _, _, _] => g != 0#8 || g == group
  | [_, g, _, _, _, _, _, _] => g != 1#8 || g == group
  | _ => true

/-- Which commands can come. -/
def Instr.wellFormed : Instr → Bool
  | .powerUp => true
  | .secondMark => true
  | .answerWindowExpiry _ => true
  | .speedWindowExpiry _ => true
  | .drainLimitExpiry _ => true
  | .guardTimeExpiry _ => true
  | .retryPeriodExpiry _ => true
  | .noiseWindowExpiry _ => true
  | .lockTimerExpiry a => isAccountNumber a
  | .signOnLimitExpiry _ => true
  | .waitLimitExpiry _ => true
  | .holdExpiry n => isSessionNumber n
  | .idleLimitExpiry n => isSessionNumber n
  | .fundsGraceExpiry n => isSessionNumber n
  | .closingCountdownExpiry n => isSessionNumber n
  | .hostDownLimitExpiry => true
  | .linkTimeoutExpiry => true
  | .ringIndicateChange _ _ => true
  | .ringStart _ => true
  | .ringCompletion _ => true
  | .abandonTimerExpiry _ => true
  | .ringStuck _ => true
  | .carrierDetectChange _ _ => true
  | .carrierQualifiedPresent _ => true
  | .carrierQualifiedLost _ => true
  | .speedFound _ w _ => (matchSpeed w).isSome
  | .searchAttemptFailed _ f => isFailure f
  | .settleInterval _ => true
  | .characterReceived _ _ _ => true
  | .heldCharacterReceived _ _ _ => true
  | .breakPending _ => true
  | .breakReceived _ => true
  | .longSpace _ => true
  | .characterSent _ => true
  | .partMessageSent _ _ => true
  | .dropDrained _ => true
  | .frameLengthDiscard _ n => decide (240 < n.toNat)
  | .frameBadCheck k b c => bodyFits b && !(Frame.good ⟨k, b, c⟩)
  | .unknownKind k b => bodyFits b && (orderFor k).isNone
  | .replySendStart => true
  | .reportSendStart => true
  | .mark b => bodyFits b
  | .restart b => bodyFits b
  | .setClock b => bodyFits b
  | .setLimits b => bodyFits b
  | .setReports b => bodyFits b
  | .setMessage b => bodyFits b
  | .setFaultPolicy b => bodyFits b
  | .setClass b => bodyFits b
  | .setLoadSteps b => bodyFits b
  | .loadAccount b => bodyFits b
  | .creditAccount b => bodyFits b
  | .dropAccount b => bodyFits b
  | .unlockAccount b => bodyFits b
  | .queryAccount b => bodyFits b
  | .tariffClear b => bodyFits b
  | .tariffEntry b => bodyFits b
  | .commitTariff b => bodyFits b
  | .queryTariff b => bodyFits b
  | .lineServiceIn b => bodyFits b && isServiceBody 0#8 b
  | .lineServiceOut b => bodyFits b && isServiceBody 1#8 b
  | .lineServiceRestore b => bodyFits b && isServiceBody 2#8 b
  | .setLineCall b => bodyFits b && isSetLineBody 0#8 b
  | .setLineInput b => bodyFits b && isSetLineBody 1#8 b
  | .dropLine b => bodyFits b
  | .queryLine b => bodyFits b
  | .sendText b => bodyFits b
  | .endSession b => bodyFits b
  | .querySession b => bodyFits b
  | .takeBill b => bodyFits b

end Sys2Proof
end

