-- ==== Sys2Proof/Safety.lean ====
section
/-! DEFINITION. The words of the claims: what a state must hold to be one the spec allows, when the host link is free to carry
out an order, and what a reply and a report leave behind. -/

namespace Sys2Proof.Machine

/-! ## The host link -/

/-- An order that the host sends is carried out at once and finds the host UP: the assembler hunts, no order is held, the
reply path is empty, and no change to UP comes first (R167, R177). -/
abbrev State.ready (s : State) : Prop :=
  s.link.assembler = .hunting ∧ s.link.heldOrder = none ∧ s.link.replyPath = none ∧ s.link.host = .up

/-- The state after a good frame whose order left `s` and was answered with a reply: the assembler hunts, the link timeout
has restarted if it is set, and the reply is on the reply path (R167, R168, R175). -/
def State.replied (s : State) (kind : Byte) (code : ReplyCode) (data : List Byte) : State :=
  { s with link := { s.link with assembler := .hunting, timeoutRunning := s.link.limits.linkTimeout != 0,
                                 replyPath := some ⟨kind, code, data⟩ } }

/-- The Link Controller after a status report was raised: queued where an entry is free, else dropped with the lost flag set
(R171). -/
def Link.reported (k : Link) (r : Report) : Link :=
  if k.reports.length < 64 then { k with reports := k.reports ++ [r] } else { k with lost := true }

/-- The Link Controller after a line event was raised: reported if its kind is enabled (R172). -/
def Link.evented (k : Link) (p : Port) (e : LineEvent) : Link :=
  if k.enables.allows e then k.reported (.lineEvent p e) else k

/-- A list of lines without one line. -/
def without (p : Port) (xs : List Port) : List Port := xs.filter (· ≠ p)

/-- The characters of a message of the table as they join a queue: its text, CR, LF (R44, R90). -/
def messageCodes (text : List Code) : List Code := text ++ [13#7, 10#7]

/-- The codes on an output queue after a message of the table was queued behind them: it joins whole, or is discarded whole
(R44, R90). -/
def joined (queue text : List Code) : List Code :=
  if queue.length + (text.length + 2) ≤ 256 then queue ++ messageCodes text else queue

/-- The codes on a line's output queue, the head first (R43). -/
def Line.shown (l : Line) : List Code := l.output.map (·.code)

/-! ## Second marks -/

/-- A line's counts one mark later: its window, its sign-on limit where it runs, and its wait limit are each lower by 1 (R3,
R99, R104); so is its noise window, and where that runs out the count is cleared and the window runs anew (R52). -/
def Line.lowered (l : Line) (noise : Nat) : Line :=
  { l with
    window := l.window.map (· - 1),
    noiseCount := if ∃ n ∈ l.noiseWindow, n ≤ 1 then 0 else l.noiseCount,
    noiseWindow := l.noiseWindow.map (fun n => if n ≤ 1 then noise else n - 1),
    holder := match l.holder with
              | .dialogue d => .dialogue { d with
                  limit := match d.limit with
                           | .running n => .running (n - 1)
                           | x => x,
                  waitLimit := d.waitLimit.map (· - 1) }
              | h => h }

/-- The part at a second mark, when the clock has moved on (R129) and every count outside the sessions is lower by 1: the lines'
counts, the timed locks (R83), and while DOWN the host-down limit, with one second down more (R176). The mark's free order is
drawn (log entry 2). -/
def State.lowered (s : State) : State :=
  { s with
    lines := s.lines.map (fun l => l.lowered s.link.limits.noiseWindow),
    accounts := s.accounts.map (fun a =>
      match a.lock with
      | .lockedTimed n => { a with lock := .lockedTimed (n - 1) }
      | _ => a),
    tariff := { s.tariff with clock := if s.tariff.clockValid then s.tariff.clock.advance else s.tariff.clock },
    link := match s.link.host with
            | .up => s.link
            | .down => { s.link with secondsDown := min 65535 (s.link.secondsDown + 1),
                                     downRemaining := s.link.downRemaining.map (· - 1) },
    draws := s.draws + 1 }

/-- The expiry of the window that a line's state runs (R3). -/
def Line.windowExpiry (l : Line) (p : Port) : Instr :=
  match l.state with
  | .searching => .speedWindowExpiry p | .dropping => .drainLimitExpiry p | .guard => .guardTimeExpiry p
  | .resting => .retryPeriodExpiry p
  | _ => .answerWindowExpiry p

/-- The expiries of the counts outside the sessions that stand at 0: of the lines' windows, sign-on limits and wait limits, of the
timed locks and of the host-down limit (R3, R83, R99, R104, R176). -/
def State.runOut (s : State) : List Instr :=
  ((List.finRange 32).filter (fun p => decide ((s.line p).window = some 0))).map (fun p => (s.line p).windowExpiry p)
    ++ ((List.finRange 32).filter (fun p => match (s.line p).holder with
        | .dialogue d => decide (d.limit = .running 0)
        | _ => false)).map .signOnLimitExpiry
    ++ ((List.finRange 32).filter (fun p => match (s.line p).holder with
        | .dialogue d => decide (d.waitLimit = some 0)
        | _ => false)).map .waitLimitExpiry
    ++ (s.accounts.filter (fun a => decide (a.lock = .lockedTimed 0))).map (fun a => .lockTimerExpiry a.number)
    ++ (if s.link.downRemaining = some 0 then [.hostDownLimitExpiry] else [])

/-- The mark that comes is no minute mark (R129). -/
abbrev State.withinMinute (s : State) : Prop := s.tariff.clockValid = true → s.tariff.clock.second ≠ 59

/-- The entry of a table in force at a time: used, of that day, started, and started last (R137). -/
def TariffTable.inForce (table : TariffTable) (now : Time) (i : Fin 16) (e : TariffEntry) : Prop :=
  table[i] = some e ∧ e.days.getLsbD now.day = true ∧ e.start ≤ now.minute
    ∧ ∀ (j : Fin 16) (f : TariffEntry), j ≠ i → table[j] = some f → f.days.getLsbD now.day = true → f.start ≤ now.minute →
      f.start < e.start

/-! ## The load band (R139) -/

/-- A band that stands as an evaluation at `u` slots in use leaves it, under thresholds that strictly increase: `u` is below the
threshold of the next band, and at or above the band's own threshold less the hysteresis (R139). -/
def LoadSteps.settled (x : LoadSteps) (band u : Nat) : Prop :=
  x.t1 < x.t2 ∧ x.t2 < x.t3 ∧
    ((band = 0 ∧ u < x.t1) ∨ (band = 1 ∧ u < x.t2 ∧ x.t1 ≤ u + x.h) ∨ (band = 2 ∧ u < x.t3 ∧ x.t2 ≤ u + x.h)
      ∨ (band = 3 ∧ x.t3 ≤ u + x.h))

/-- The band after an admission that leaves `u` slots in use: one higher where `u` has reached the threshold of the next band
(R139). -/
def LoadSteps.risen (x : LoadSteps) (band u : Nat) : Nat :=
  if (band = 0 ∧ x.t1 ≤ u) ∨ (band = 1 ∧ x.t2 ≤ u) ∨ (band = 2 ∧ x.t3 ≤ u) then band + 1 else band

/-- The band after a close that leaves `u` slots in use: one lower where `u` is below the band's threshold less the hysteresis
(R139). -/
def LoadSteps.fallen (x : LoadSteps) (band u : Nat) : Nat :=
  if (band = 1 ∧ u + x.h < x.t1) ∨ (band = 2 ∧ u + x.h < x.t2) ∨ (band = 3 ∧ u + x.h < x.t3) then band - 1 else band

/-- The band after closes that leave no slot in use: 0, but that a band whose threshold less the hysteresis is 0 or below is
not left by falling counts (R139). -/
def LoadSteps.emptied (x : LoadSteps) (band : Nat) : Nat :=
  if 3 ≤ band ∧ x.t3 ≤ x.h then 3 else if 2 ≤ band ∧ x.t2 ≤ x.h then 2 else if 1 ≤ band ∧ x.t1 ≤ x.h then 1 else 0

/-- The load band is settled for the slots in use (R139). -/
def State.bandSettled (s : State) : Prop := s.tariff.steps.settled s.tariff.band s.sessions.length

/-! ## Closes and the wait queue -/

/-- The Link Controller after the reports of a close that admits no waiting line and leaves the band at `band`: BILLS WAITING at
the first record and at the high level (R164), LOAD BAND where the band has changed (R139), SESSION CLOSED (R121, R126). -/
def State.closeReports (s : State) (x : Session) (w : Cause) (band : Nat) : Link :=
  let k1 := if s.bills.length = 0 ∨ s.bills.length = 95 then s.link.reported (.billsWaiting (s.bills.length + 1)) else s.link
  let k2 := if band = s.tariff.band then k1
            else k1.reported (.loadBand s.tariff.band band (s.sessions.length - 1) (s.tariff.steps.multiplier band))
  k2.reported (.sessionClosed x.number x.account x.boundLine w)

/-- The line waits for a slot, for a session of account `n` (R103). -/
def State.waitsFor (s : State) (p : Port) (n : Nat) : Prop :=
  (s.line p).state = .connected ∧ ∃ d, (s.line p).holder = .dialogue d ∧ d.phase = .waiting ∧ d.account = some n

/-- The message with which a line taken from the head of the wait queue is dropped while the host is UP (R106). -/
def State.headFails (s : State) (n : Nat) (m : Slot) : Prop :=
  (m = slotNotAccepted ∧ s.findAccount n = none)
    ∨ ∃ a, s.findAccount n = some a ∧
      ((m = slotSuspended ∧ a.lock ≠ .open)
        ∨ (a.lock = .open ∧
            ((m = slotNotAtThisHour ∧ ∃ w, s.tariff.period = some w ∧ w.rates[a.classNo] = .closed)
              ∨ (∃ w cu, s.tariff.period = some w ∧ w.rates[a.classNo] = .open cu) ∧
                ((m = slotNoFunds ∧ a.balance = 0 ∧ (s.classes[a.classNo]).free = false)
                  ∨ ((a.balance ≠ 0 ∨ (s.classes[a.classNo]).free = true) ∧
                      ((m = slotLimit ∧ a.limit ≤ a.active)
                        ∨ (m = slotNotAvailable ∧ a.active < a.limit ∧ 128 ≤ s.sessions.length + s.bills.length)))))))

/-- The account `a` of a line taken from the head of the wait queue passes every check of R106. -/
def State.headPasses (s : State) (n : Nat) (a : Account) : Prop :=
  s.findAccount n = some a ∧ a.lock = .open ∧ (∃ w cu, s.tariff.period = some w ∧ w.rates[a.classNo] = .open cu)
    ∧ (a.balance ≠ 0 ∨ (s.classes[a.classNo]).free = true) ∧ a.active < a.limit
    ∧ s.sessions.length + s.bills.length < 128

/-- `t` is what the admission of line `p` to a session `y` of account `a` makes of `s` (R98): `y` joins the table with a number
that is free, the first from the next number on, and counters at 0 (R113), the rate open for its class and the multiplier of the
band that its own slot leaves (R139, R144); the line names it, with retry count 0, and has left the wait queue; the account has
one active session more. LOAD BAND is reported where the band has risen, then SESSION OPENED, and where the balance is within the
low-funds threshold FUNDS LOW follows, on the line and to the host (R126, R149). -/
def State.admits (s t : State) (p : Port) (a : Account) (y : Session) : Prop :=
  ∃ (w : Period) (cu : Nat) (r : ClassRecord) (warns : Bool),
    s.tariff.period = some w ∧ w.rates[a.classNo] = .open cu ∧ r = s.classes[a.classNo]
    ∧ warns = decide (r.lowFunds ≠ 0 ∧ a.balance ≤ r.lowFunds)
    ∧ y = { number := y.number, account := a.number, snapshot := ⟨a.classNo, r⟩, state := .open, boundLine := some p,
            firstLine := p, lastLine := p, start := s.tariff.clock, fundsWarned := warns,
            meter := { rate := cu,
                       multiplier := if r.surcharge then s.tariff.steps.multiplier t.tariff.band else 16 } }
    ∧ (∀ z ∈ s.sessions, z.number ≠ y.number)
    ∧ ((∀ z ∈ s.sessions, z.number ≠ s.nextNumber) → y.number = s.nextNumber)
    ∧ t = { s with
        lines := s.lines.set p { s.line p with
          holder := .session y.number, retryCount := 0, output := (t.line p).output },
        accounts := t.accounts, waitQueue := without p s.waitQueue, sessions := s.sessions ++ [y],
        nextNumber := if 65535 ≤ y.number then 1 else y.number + 1, tariff := { s.tariff with band := t.tariff.band },
        link := { s.link with reports := t.link.reports, lost := t.link.lost } }
    ∧ (t.line p).shown = (if warns then joined (s.line p).shown s.messages[slotFundsLow] else (s.line p).shown)
    ∧ t.findAccount a.number = some { a with active := a.active + 1 }
    ∧ (∀ m, m ≠ a.number → t.findAccount m = s.findAccount m)
    ∧ (s.bandSettled → t.tariff.band = s.tariff.steps.risen s.tariff.band (s.sessions.length + 1)
        ∧ ∀ k, k = (if t.tariff.band = s.tariff.band then s.link
            else s.link.reported (.loadBand s.tariff.band t.tariff.band (s.sessions.length + 1)
              (s.tariff.steps.multiplier t.tariff.band))).reported (.sessionOpened y.number p a.number a.classNo) →
          t.link = if warns then k.reported (.fundsLow y.number a.number (some p) a.balance) else k)

/-- The record of line `p`, in a dialogue, as the failure of a check of R106 with message `m` leaves it: `l` is in DROPPING with the
drain limit, its dialogue in FAREWELL, behind the message where that fits (R14, R44, R106). -/
def State.dropsHead (s : State) (p : Port) (talk : Dialogue) (m : Slot) (l : Line) : Prop :=
  l = { s.line p with
    output := l.output, state := .dropping, window := some 10, noiseCount := 0, noiseWindow := none,
    holder := .dialogue ⟨.farewell, talk.attempts, .stopped, none, none⟩ }
  ∧ l.shown = joined (s.line p).shown s.messages[m]

/-! ## Frames that carry an order -/

/-- The KIND and the body of the good frame that a command is, if it is one (R168). -/
def frameOf : Instr → Option (Byte × List Byte)
  | .unknownKind k b => some (k, b)
  | .mark b => some (0x01#8, b)
  | .restart b => some (0x02#8, b)
  | .setClock b => some (0x03#8, b)
  | .setLimits b => some (0x04#8, b)
  | .setReports b => some (0x05#8, b)
  | .setMessage b => some (0x06#8, b)
  | .setFaultPolicy b => some (0x07#8, b)
  | .setClass b => some (0x08#8, b)
  | .setLoadSteps b => some (0x09#8, b)
  | .loadAccount b => some (0x10#8, b)
  | .creditAccount b => some (0x11#8, b)
  | .dropAccount b => some (0x12#8, b)
  | .unlockAccount b => some (0x13#8, b)
  | .queryAccount b => some (0x14#8, b)
  | .tariffClear b => some (0x18#8, b)
  | .tariffEntry b => some (0x19#8, b)
  | .commitTariff b => some (0x1A#8, b)
  | .queryTariff b => some (0x1B#8, b)
  | .lineServiceIn b => some (0x20#8, b)
  | .lineServiceOut b => some (0x20#8, b)
  | .lineServiceRestore b => some (0x20#8, b)
  | .setLineCall b => some (0x21#8, b)
  | .setLineInput b => some (0x21#8, b)
  | .dropLine b => some (0x22#8, b)
  | .queryLine b => some (0x23#8, b)
  | .sendText b => some (0x28#8, b)
  | .endSession b => some (0x29#8, b)
  | .querySession b => some (0x2A#8, b)
  | .takeBill b => some (0x30#8, b)
  | _ => none

/-- Whether a body has the length that 11.3 gives its KIND; a KIND that names no order has none (R168, R181). -/
def lengthRight (kind : Byte) (body : List Byte) : Bool :=
  match kind.toNat with
  | 0x01 => body.length == 2 | 0x02 => body.length == 0 | 0x03 => body.length == 4 | 0x04 => body.length == 11
  | 0x05 => body.length == 5 | 0x06 => decide (2 ≤ body.length) && body.length == 2 + (body.getD 1 0#8).toNat
  | 0x07 => body.length == 5 | 0x08 => body.length == 18 | 0x09 => body.length == 8 | 0x10 => body.length == 11
  | 0x11 => body.length == 7 | 0x12 => body.length == 3 | 0x13 => body.length == 3 | 0x14 => body.length == 4
  | 0x18 => body.length == 0 | 0x19 => body.length == 13 | 0x1A => body.length == 4 | 0x1B => body.length == 1
  | 0x20 => body.length == 2
  | 0x21 => body.length == 5 && body.getD 1 0#8 == 0#8 || body.length == 8 && body.getD 1 0#8 == 1#8
  | 0x22 => body.length == 1 | 0x23 => body.length == 1
  | 0x28 => decide (3 ≤ body.length) && body.length == 3 + (body.getD 2 0#8).toNat
  | 0x29 => body.length == 2 | 0x2A => body.length == 3 | 0x30 => body.length == 0
  | _ => false

/-! ## Layouts of replies (11.1, 11.4) -/

/-- Fields as they follow one another in a body, each by its size in bytes and its number: most significant byte first, without
gaps (11.1). -/
def laid (fields : List (Nat × Nat)) : List Byte :=
  fields.flatMap (fun f => (List.range f.1).reverse.map (fun i => BitVec.ofNat 8 (f.2 / 256 ^ i)))

/-- A flag's number (11.1). -/
def flagNumber (b : Bool) : Nat := if b then 1 else 0

/-- A line's number, FFh for no line (11.1). -/
def lineNumber : Option Port → Nat
  | some p => p.val
  | none => 255

/-- A time of day (11.1). -/
def Time.layout (t : Time) : List (Nat × Nat) := [(1, t.day), (2, t.minute), (1, t.second)]

/-- The account record of QUERY ACCOUNT (11.4). -/
def Account.layout (a : Account) : List (Nat × Nat) :=
  [(3, a.number), (1, a.classNo.val), (2, a.check), (3, a.balance), (1, a.limit), (1, a.active), (1, a.failures),
    (1, match a.lock with | .open => 0 | .lockedTimed _ => 1 | .lockedHeld => 2),
    (2, match a.lock with | .lockedTimed n => n | _ => 0), (1, a.lockRepeats), (3, a.chargedTotal)]

/-- A class and its record in the SET CLASS layout (11.3). -/
def ClassRecord.layout (c : Fin 4) (r : ClassRecord) : List (Nat × Nat) :=
  [(1, c.val), (1, flagNumber r.free), (1, flagNumber r.surcharge), (2, r.minCharge), (2, r.cap), (2, r.grace), (2, r.lowFunds),
    (1, r.idleLimit), (1, r.failureLimit), (1, r.lockPolicy.code), (1, r.lockPeriod), (1, r.repeatLimit), (2, r.holdTime)]

/-- The session record of QUERY SESSION (11.4). -/
def Session.layout (x : Session) : List (Nat × Nat) :=
  [(2, x.number), (3, x.account)] ++ x.snapshot.record.layout x.snapshot.classNo
    ++ [(1, x.state.code), (1, lineNumber x.boundLine), (1, x.firstLine.val), (1, x.lastLine.val)] ++ x.start.layout
    ++ [(2, x.idle), (1, flagNumber x.idleWarned), (2, x.hold.getD 0), (3, x.metered), (3, x.stalled), (3, x.heldSeconds),
      (1, x.reattaches), (2, x.meter.rate), (1, x.meter.multiplier), (2, x.meter.acc), (2, x.meter.charged),
      (2, x.meter.debited), (2, x.meter.overrun), (2, x.meter.waived),
      (1, flagNumber x.meter.capReached + 2 * flagNumber x.meter.rounded + 4 * flagNumber x.meter.minApplied
        + 8 * flagNumber x.fundsWarned), (2, x.grace.getD 0), (2, x.countdown.getD 0)]

/-- The bill record of TAKE BILL (11.4). -/
def Bill.layout (b : Bill) : List (Nat × Nat) :=
  [(2, b.session), (3, b.account), (1, b.classNo.val), (1, b.firstLine.val), (1, b.lastLine.val)] ++ b.start.layout
    ++ b.finish.layout
    ++ [(3, b.metered), (3, b.stalled), (3, b.heldSeconds), (2, b.meter.charged), (2, b.meter.debited), (2, b.meter.overrun),
      (2, b.meter.waived),
      (1, flagNumber b.meter.capReached + 2 * flagNumber b.meter.rounded + 4 * flagNumber b.meter.minApplied),
      (1, b.reattaches), (1, b.cause.code)]

/-- The kind of a last line event and its two detail bytes (11.4). -/
def eventLayout : Option LineEvent → List (Nat × Nat)
  | none => [(1, 0), (1, 0), (1, 0)]
  | some .answered => [(1, 1), (1, 0), (1, 0)]
  | some (.speedFound sp q) => [(1, 2), (1, speedCode (some sp)), (1, parityCode (some q))]
  | some (.callEnded r) => [(1, 3), (1, r.code), (1, 0)]
  | some (.fault k) => [(1, 4), (1, k.code), (1, 0)]
  | some .restored => [(1, 5), (1, 0), (1, 0)]

/-- A line's place on a list, counted from 1 at its head; 0 where it is not on it (R49, R88). -/
def placeOn (xs : List Port) (p : Port) : Nat := if p ∈ xs then xs.idxOf p + 1 else 0

/-- The call group of the line record (11.4): the window is the one the state runs. -/
def Line.callLayout (p : Port) (l : Line) : List (Nat × Nat) :=
  [(1, p.val), (1, l.state.code), (1, l.ringCount), (1, speedCode l.speed), (1, parityCode l.parity),
    (1, match l.speed with | none => 0 | some .b110 => 2 | some _ => 1), (1, l.searchAttempts), (1, flagNumber l.parityCheck),
    (1, flagNumber l.substitute), (1, l.answerRingCount),
    (1, match l.window, l.state with
        | none, _ => 0 | some _, .answering => 1 | some _, .searching => 2 | some _, .dropping => 3 | some _, .guard => 4
        | some _, .resting => 5 | some _, _ => 0),
    (2, l.window.getD 0), (1, match l.destination with | .idle => 0 | .resting _ => 1 | .latched => 2),
    (1, match l.destination with | .resting i => i | _ => 0)] ++ eventLayout l.lastEvent

/-- The holder group of the line record (11.4). -/
def Line.holderLayout (p : Port) (queue : List Port) (l : Line) : List (Nat × Nat) :=
  match l.holder with
  | .none => [(11, 0)]
  | .session n => [(1, 2), (2, n), (8, 0)]
  | .dialogue d =>
    [(1, 1), (2, 0), (1, d.phase.code), (1, d.attempts),
      (2, match d.limit with | .running n => n | .paused n => n | .stopped => 0),
      (1, match d.limit with | .running _ => 1 | _ => 0), (2, d.waitLimit.getD 0),
      (1, if d.phase = .waiting then placeOn queue p else 0)]

/-- The line record of QUERY LINE (11.4). -/
def State.lineLayout (s : State) (p : Port) : List (Nat × Nat) :=
  (s.line p).callLayout p
    ++ [(1, (s.line p).retryCount), (1, (s.line p).noiseCount), (1, (s.line p).noiseWindow.getD 0)]
    ++ (s.line p).holderLayout p s.waitQueue
    ++ [(1, flagNumber (s.line p).echo), (1, (s.line p).settings.mode.code), (1, (s.line p).settings.countN),
      (1, flagNumber (s.line p).settings.endAtCount), (1, flagNumber (s.line p).settings.marking),
      (1, (s.line p).settings.separator.toNat), (1, flagNumber (s.line p).pendingSettings.isSome),
      (2, (s.line p).output.length), (1, flagNumber (s.line p).drainWanted), (1, flagNumber (s.line p).waitingRecord.isSome),
      (1, placeOn s.inputWait p)]

/-- A rate's number, 4,095 for CLOSED (11.1). -/
def Rate.number : Rate → Nat
  | .open cu => cu
  | .closed => 4095

/-- A tariff entry, an empty one as zeros (11.3, 11.4). -/
def entryLayout : Option TariffEntry → List (Nat × Nat)
  | none => [(12, 0)]
  | some e => [(1, 1), (1, e.days.toNat), (2, e.start), (2, e.rates[0].number), (2, e.rates[1].number),
      (2, e.rates[2].number), (2, e.rates[3].number)]

/-- The QUERY TARIFF data behind the table's number (11.4). -/
def State.tariffLayout (s : State) (table : TariffTable) : List (Nat × Nat) :=
  table.toList.flatMap entryLayout ++ [(1, flagNumber s.tariff.activePresent), (1, flagNumber s.tariff.clockValid)]
    ++ s.tariff.clock.layout
    ++ (match s.tariff.commit with
        | .none => [(1, 0), (4, 0)]
        | .nextMinute => [(1, 1), (4, 0)]
        | .at target awaited => [(1, 2), (1, target / 1440), (2, target % 1440), (1, flagNumber awaited)])
    ++ (match s.tariff.period with
        | none => [(1, 255), (9, 0)]
        | some w => [(1, w.index), (1, 1), (2, w.rates[0].number), (2, w.rates[1].number), (2, w.rates[2].number),
            (2, w.rates[3].number)])
    ++ [(1, s.tariff.steps.t1), (1, s.tariff.steps.t2), (1, s.tariff.steps.t3), (1, s.tariff.steps.h), (1, s.tariff.steps.m0),
      (1, s.tariff.steps.m1), (1, s.tariff.steps.m2), (1, s.tariff.steps.m3), (1, s.sessions.length), (1, s.tariff.band)]

/-! ## Reports (R171, 11.5) -/

/-- The KIND of a report (R171). -/
def Report.kindNumber : Report → Nat
  | .lineEvent .. => 0x81 | .input .. => 0x82 | .sessionOpened .. => 0x83 | .sessionHeld .. => 0x84
  | .sessionResumed .. => 0x85 | .sessionClosed .. => 0x86 | .fundsLow .. => 0x87 | .accountLocked .. => 0x88
  | .drained .. => 0x89 | .billsWaiting .. => 0x8A | .tariffSwitched .. => 0x8B | .loadBand .. => 0x8C
  | .linkRestored .. => 0x8D

/-- What a report's body carries behind the lost flag (11.5). -/
def Report.layout : Report → List (Nat × Nat)
  | .lineEvent p e => (1, p.val) :: eventLayout (some e)
  | .input n p r =>
    [(2, n), (1, p.val), (1, r.status.code), (1, flagNumber r.isBreak), (1, r.marks.length)] ++ r.marks.map (fun m => (1, m))
      ++ [(1, r.text.length)] ++ r.text.map (fun c => (1, c.toNat))
  | .sessionOpened n p a c => [(2, n), (1, p.val), (3, a), (1, c.val)]
  | .sessionHeld n a p why h => [(2, n), (3, a), (1, p.val), (1, why.code), (2, h)]
  | .sessionResumed n a p => [(2, n), (3, a), (1, p.val)]
  | .sessionClosed n a p why => [(2, n), (3, a), (1, lineNumber p), (1, why.code)]
  | .fundsLow n a p b => [(2, n), (3, a), (1, lineNumber p), (3, b)]
  | .accountLocked a p would k r =>
    [(3, a), (1, p.val), (1, flagNumber would), (1, match k with | .open => 0 | .lockedTimed _ => 1 | .lockedHeld => 2),
      (2, match k with | .lockedTimed n => n | _ => 0), (1, r)]
  | .drained n p => [(2, n), (1, p.val)]
  | .billsWaiting n => [(1, n)]
  | .tariffSwitched now w => [(1, now.day), (2, now.minute), (1, w.index), (2, w.rates[0].number), (2, w.rates[1].number),
      (2, w.rates[2].number), (2, w.rates[3].number)]
  | .loadBand before after u m => [(1, before), (1, after), (1, u), (1, m)]
  | .linkRestored n expired => [(2, n), (1, flagNumber expired)]

/-! ## The signals of a selection (R138) -/

/-- The rate of a class goes from open to CLOSED between two selections (R138). -/
def Period.closes (before after : Period) (c : Fin 4) : Bool :=
  match before.rates[c], after.rates[c] with
  | .open _, .closed => true
  | _, _ => false

/-- The rate of a class goes from CLOSED to open between two selections (R138). -/
def Period.reopens (before after : Period) (c : Fin 4) : Bool :=
  match before.rates[c], after.rates[c] with
  | .closed, .open _ => true
  | _, _ => false

/-- The closed signal of its class starts the closing countdown of a session: it is OPEN or STALLED and none is running
(R153). -/
def Session.told (x : Session) (before after : Period) : Bool :=
  before.closes after x.snapshot.classNo && x.state != .held && x.countdown.isNone

/-- The closing countdown of a session behind the signals of a selection that found it at `count` (R138, R153, R154). -/
def Session.signalled (x : Session) (before after : Period) (count : Option Nat) : Option Nat :=
  if x.told before after then some 300 else if before.reopens after x.snapshot.classNo then none else count

/-! ## Characters -/

/-- The one bits among the seven data bits and the parity bit of a character (R25). -/
def onesOf (c : Code) (bit : Bool) : Nat :=
  ((List.range 7).filter (fun i => c.getLsbD i)).length + (if bit then 1 else 0)

/-- A received character shows no parity error on a line: parity check is OFF, or the one bits are even with EVEN parity and
odd with ODD (R25). -/
abbrev Line.accepts (l : Line) (c : Code) (bit : Bool) : Prop :=
  l.parityCheck = false ∨ (l.parity = some .even ∧ onesOf c bit % 2 = 0) ∨ (l.parity = some .odd ∧ onesOf c bit % 2 = 1)

/-- The output queue after an echo, which joins it whole or is dropped whole (R28, R44). -/
def Line.echoed (l : Line) (cs : List Code) : List OutChar :=
  if l.output.length + cs.length ≤ 256 then l.output ++ cs.map (fun c => ⟨c, none⟩) else l.output

/-- What is sent for an assembled character: BEL whatever the echo setting, else its echo with echo ON (R28). -/
def Assembled.sent (r : Assembled) (echo : Bool) : List Code :=
  if r.bell then [7#7] else if echo then r.echo else []

/-- The line holds an OPEN session, and no record of it waits: what is typed is assembled (R26). -/
abbrev State.assembles (s : State) (p : Port) (n : Nat) (x : Session) : Prop :=
  (s.line p).state = .connected ∧ (s.line p).holder = .session n ∧ s.findSession n = some x ∧ x.state = .open
    ∧ (s.line p).waitingRecord = none

/-- A record of a line reaches the report queue at once: no line waits and 16 entries are free (R37). -/
abbrev State.hasRoom (s : State) : Prop := s.inputWait = [] ∧ s.link.reports.length + 16 ≤ 64

/-- The line is in ENTRY and has typed a well-formed record but for its CR: the digits of the account number, the separator,
and the password (R92). -/
def State.hasTyped (s : State) (p : Port) (d : Dialogue) (account : Nat) (password : List Code) : Prop :=
  (s.line p).state = .connected ∧ (s.line p).holder = .dialogue d ∧ d.phase = .entry
    ∧ ∃ digits : List Code, (s.line p).partialRecord = ⟨digits ++ password, [digits.length], false, false⟩
      ∧ 1 ≤ digits.length ∧ digits.length ≤ 6 ∧ (∀ c ∈ digits, 48 ≤ c.toNat ∧ c.toNat ≤ 57)
      ∧ account = digits.foldl (fun v c => v * 10 + (c.toNat - 48)) 0 ∧ 1 ≤ account
      ∧ 1 ≤ password.length ∧ password.length ≤ 12 ∧ ∀ c ∈ password, 33 ≤ c.toNat ∧ c.toNat ≤ 126

/-- The sign-on record that a CR would end is malformed: it is FULL; it has no mark, or more than one; its latch is set, so
that its last field is empty; or it has one mark, but what stands before it is not 1 to 6 digits with a value of 1 or more, or
what stands behind it is not 1 to 12 characters of codes 33 to 126 (R33, R92). -/
def Partial.malformed (q : Partial) : Prop :=
  q.lengthRefusal = true ∨ q.marks = [] ∨ 2 ≤ q.marks.length ∨ q.latch = true
    ∨ ∃ place, q.marks = [place] ∧
        (place = 0 ∨ 6 < place ∨ (∃ c ∈ q.buffer.take place, c.toNat < 48 ∨ 57 < c.toNat)
          ∨ (∀ c ∈ q.buffer.take place, c.toNat = 48)
          ∨ q.buffer.length ≤ place ∨ place + 12 < q.buffer.length
          ∨ ∃ c ∈ q.buffer.drop place, c.toNat < 33 ∨ 126 < c.toNat)

/-- The HELD session that a reattach of an account takes: the one with the least hold remaining, and of those with the same
the one with the lowest number (R100). -/
def State.soonest (s : State) (account : Nat) (x : Session) (h : Nat) : Prop :=
  s.findSession x.number = some x ∧ x.account = account ∧ x.state = .held ∧ x.hold = some h
    ∧ ∀ y ∈ s.sessions, y.account = account → y.state = .held →
        ∃ k, y.hold = some k ∧ (h < k ∨ (h = k ∧ x.number ≤ y.number))

/-- The current rate of a class is open (R93, check 6). -/
def State.openAt (s : State) (c : Fin 4) (cu : Nat) : Prop := ∃ w, s.tariff.period = some w ∧ w.rates[c] = .open cu

/-! ## What every state the part can be in holds -/

/-- The report queue holds at most 64 reports (R171). -/
def State.reportsFit (s : State) : Prop := s.link.reports.length ≤ 64

/-- Every output queue holds at most 256 characters (R43). -/
def State.outputsFit (s : State) : Prop := ∀ p : Port, (s.line p).output.length ≤ 256

/-- Every balance and every charged total lies within 0 to 16,777,215 (R69, R84). -/
def State.moneyFits (s : State) : Prop :=
  ∀ a ∈ s.accounts, a.balance ≤ 16777215 ∧ a.chargedTotal ≤ 16777215

/-- Session records and bill records together never exceed 128 (R160). -/
def State.billsFit (s : State) : Prop := s.sessions.length + s.bills.length ≤ 128

/-- The session records never exceed 32, nor does the host slot limit (R112, R173). -/
def State.slotsFit (s : State) : Prop := s.link.limits.hostSlots ≤ 32 ∧ s.sessions.length ≤ 32

/-- A class record's cap and minimum: the minimum is at most 255 and never above a non-zero cap (R85, R86). -/
def ClassRecord.sound (r : ClassRecord) : Prop :=
  r.cap ≤ 65535 ∧ r.minCharge ≤ 255 ∧ (r.cap ≠ 0 → r.minCharge ≤ r.cap)

/-- A meter under a class record: the accumulator is below a unit, the charged units are the debited, the overrun and the
waived ones, they keep to a non-zero cap and to 65,535, and only a free class waives (R143, R146, R147, R148). -/
def Meter.sound (m : Meter) (r : ClassRecord) : Prop :=
  m.acc < 57600 ∧ m.charged = m.debited + m.overrun + m.waived ∧ m.charged ≤ 65535
    ∧ (r.cap ≠ 0 → m.charged ≤ r.cap)
    ∧ (r.free = true → m.debited = 0 ∧ m.overrun = 0) ∧ (r.free = false → m.waived = 0)

/-- Every class record, every session's snapshot and meter, and every bill record's units are sound (R86, R143, R148,
R161). -/
def State.metersSound (s : State) : Prop :=
  (∀ c : Fin 4, (s.classes[c]).sound)
    ∧ (∀ x ∈ s.sessions, x.snapshot.record.sound ∧ x.meter.sound x.snapshot.record)
    ∧ (∀ b ∈ s.bills, b.meter.charged = b.meter.debited + b.meter.overrun + b.meter.waived ∧ b.meter.charged ≤ 65535)

/-- An order is held only behind a reply on the reply path (R167). -/
def State.heldSound (s : State) : Prop := s.link.heldOrder ≠ none → s.link.replyPath ≠ none

/-- While the host is UP no session is STALLED and no host-down limit runs; while it is DOWN no session is OPEN and no line
waits for a slot (R107, R118, R119, R176). -/
def State.hostSound (s : State) : Prop :=
  (s.link.host = .up → (∀ x ∈ s.sessions, x.state ≠ .stalled) ∧ s.link.downRemaining = none)
    ∧ (s.link.host = .down → (∀ x ∈ s.sessions, x.state ≠ .open) ∧ s.waitQueue = [])

/-- A line waits for a slot only while slots in use are at or above the host slot limit (R102, R105). -/
def State.waitersSound (s : State) : Prop := s.waitQueue ≠ [] → s.link.limits.hostSlots ≤ s.sessions.length

/-- Lines and what holds them agree: a line that names a session is CONNECTED and is that session's bound line, a dialogue is on a
line that is CONNECTED or, in FAREWELL, DROPPING, and a session's bound line names it; a session is HELD exactly when it has no
bound line; and the wait queue holds no line twice, and holds the lines with a dialogue in WAITING (R2, R13, R88, R102, R103, R109,
R111, R112). -/
def State.linesBound (s : State) : Prop :=
  (∀ p : Port,
    (∀ n, (s.line p).holder = .session n →
      (s.line p).state = .connected ∧ ∃ x ∈ s.sessions, x.number = n ∧ x.boundLine = some p)
    ∧ (∀ d, (s.line p).holder = .dialogue d →
      ((s.line p).state = .connected ∧ d.phase ≠ .farewell) ∨ ((s.line p).state = .dropping ∧ d.phase = .farewell)))
  ∧ (∀ x ∈ s.sessions, (x.state = .held ↔ x.boundLine = none)
      ∧ ∀ p, x.boundLine = some p → (s.line p).holder = .session x.number)
  ∧ (∀ p ∈ s.waitQueue, ∃ d, (s.line p).holder = .dialogue d ∧ d.phase = .waiting)
  ∧ s.waitQueue.Nodup ∧ ∀ p d, (s.line p).holder = .dialogue d → d.phase = .waiting → p ∈ s.waitQueue

/-- No two sessions have one number, and every number, the next one too, is 1 to 65,535 (R111, R113). -/
def State.numbersSound (s : State) : Prop :=
  (s.sessions.map (·.number)).Nodup ∧ (∀ x ∈ s.sessions, 1 ≤ x.number ∧ x.number ≤ 65535)
    ∧ 1 ≤ s.nextNumber ∧ s.nextNumber ≤ 65535

/-- The accounts stand in ascending order of number without repeats (R68), every session's account is in the table, and an
active count is the number of the account's sessions (R76, R84). -/
def State.accountsSound (s : State) : Prop :=
  (s.accounts.map (·.number)).Pairwise (· < ·) ∧ (∀ a ∈ s.accounts, 1 ≤ a.number ∧ a.number ≤ 999999)
    ∧ (∀ x ∈ s.sessions, ∃ a ∈ s.accounts, a.number = x.account)
    ∧ ∀ a ∈ s.accounts, a.active = (s.sessions.filter (fun x => x.account == a.number)).length

/-- The load band is one of the four (R139). -/
def State.bandFits (s : State) : Prop := s.tariff.band ≤ 3

end Sys2Proof.Machine
end

