-- ==== Sys2Proof/Certificates/Slice0/Obligations.lean ====
section
/-! DEFINITION. The statements for the provers. Each docstring names the rules of spec/ that the statement rests on; what a
statement says of `exec` is its value, its frame and its completion at once: the next state is written out as a change of
the state before. -/

open Sys2Proof Sys2Proof.Machine

/-! ## The machine -/

/-- The step takes the command at the front of the queue and executes it with the queue's rest; with no command waiting the
state is as before (the model's own queue, log entry 1). -/
def Obligations.StepRunsTheFrontCommand : Prop :=
  (∀ (c : Instr) (rest : List Instr) (s : State), s.pending = c :: rest → step s = exec c { s with pending := rest })
    ∧ ∀ s : State, s.pending = [] → step s = .next s

/-- Every command has a next state in every state, and none touches the queue of commands (log entry 5). -/
def Obligations.EveryCommandCompletes : Prop :=
  ∀ (c : Instr) (s : State), ∃ t, exec c s = .next t ∧ t.pending = s.pending

/-- What reset leaves: in every line record, but for the two input levels and what is timed on them, which are the model's
choice (R1, R2, R23, R50, R88; log entry 3), and in the other blocks, but for the day, minute and second of the invalid clock
(R55, R68, R85, R102, R113, R128, R131, R139, R159, R173, R180; log entry 4). POWER_UP gives every block the same values
(R180); the input levels, the commands that wait and the model's draws stay. The default texts of the message table are R90's.
The model's choices in it: no command waits after reset (log entry 1), no free order has been drawn (log entry 2), and no frame
and no bits have been sent (log entry 15). -/
def Obligations.ResetAndPowerUpValues : Prop :=
  ((∀ p : Port, (State.reset.line p).state = .outOfService ∧ (State.reset.line p).ringCount = 0
    ∧ (State.reset.line p).phase = .on ∧ (State.reset.line p).stuckHold = false ∧ (State.reset.line p).speed = none
    ∧ (State.reset.line p).parity = none ∧ (State.reset.line p).searchAttempts = 0
    ∧ (State.reset.line p).parityCheck = true ∧ (State.reset.line p).substitute = true
    ∧ (State.reset.line p).answerRingCount = 2 ∧ (State.reset.line p).window = none
    ∧ (State.reset.line p).destination = .idle ∧ (State.reset.line p).lastEvent = none
    ∧ (State.reset.line p).retryCount = 0 ∧ (State.reset.line p).noiseCount = 0
    ∧ (State.reset.line p).noiseWindow = none ∧ (State.reset.line p).holder = .none
    ∧ (State.reset.line p).partialRecord = ⟨[], [], false, false⟩ ∧ (State.reset.line p).waitingRecord = none
    ∧ (State.reset.line p).echo = true ∧ (State.reset.line p).settings = ⟨.line, 80, false, false, 47#7⟩
    ∧ (State.reset.line p).pendingSettings = none ∧ (State.reset.line p).output = []
    ∧ (State.reset.line p).drainWanted = false ∧ (State.reset.line p).space = .none)
  ∧ State.reset.policies.noCarrier = ⟨.report, 0, 0, 0⟩ ∧ State.reset.policies.noSpeed = ⟨.report, 0, 0, 0⟩
    ∧ State.reset.policies.noise = ⟨.retry, 2, 3, 8⟩ ∧ State.reset.policies.longSpace = ⟨.retry, 1, 3, 0⟩
    ∧ State.reset.policies.ringStuck = ⟨.latch, 0, 0, 0⟩
    ∧ (∀ c : Fin 4, State.reset.classes[c] = ⟨false, false, 0, 0, 60, 10, 15, 5, .timed, 1, 3, 120⟩)
    ∧ State.reset.accounts = [] ∧ State.reset.sessions = [] ∧ State.reset.bills = [] ∧ State.reset.waitQueue = []
    ∧ State.reset.inputWait = [] ∧ State.reset.nextNumber = 1 ∧ State.reset.tariff.clockValid = false
    ∧ (∀ i : Fin 16, State.reset.tariff.active[i] = none ∧ State.reset.tariff.standby[i] = none)
    ∧ State.reset.tariff.activePresent = false ∧ State.reset.tariff.commit = .none ∧ State.reset.tariff.period = none
    ∧ State.reset.tariff.steps = ⟨12, 20, 28, 2, 16, 20, 24, 32⟩ ∧ State.reset.tariff.band = 0
    ∧ State.reset.link = ⟨.hunting, none, none, [], [], false, ⟨true, true, true, true, true⟩, .up, false, none, 0, false,
        ⟨20, 30, 120, 3, 5, 32, 0, 10, 10, 2⟩⟩
    ∧ State.reset.pending = [])
  ∧ (∀ s : State, ∃ t, exec .powerUp s = .next t
    ∧ t = { State.reset with lines := t.lines, draws := s.draws, pending := s.pending }
    ∧ ∀ p : Port, t.line p =
        { State.reset.line p with ringInput := (s.line p).ringInput, carrierInput := (s.line p).carrierInput })
  ∧ State.reset.messages.toList =
    (["CAMPUS COMPUTING - SIGN ON", "ACCOUNT/PASSWORD:", "NOT ACCEPTED", "ACCOUNT SUSPENDED", "NOT AVAILABLE AT THIS HOUR",
      "NO FUNDS", "SESSION LIMIT REACHED", "SYSTEM FULL - PLEASE WAIT", "SYSTEM NOT AVAILABLE", "FUNDS LOW",
      "IDLE - SIGN OFF IN 1 MINUTE", "SERVICE CLOSING", "SESSION RESUMED", "GOODBYE"] : List String).map
        (fun text => text.toList.map (fun c => BitVec.ofNat 7 c.toNat))

/-! ## Second marks -/

/-- A second mark advances a valid clock as R129's table says and leaves an invalid one, whatever else falls at it. At a minute
mark a NEXT MINUTE commit, or an AT commit that awaits no wrap and is reached, makes the standby table active and the commit
absent; the standby table is kept (R135, R136). The mark that brings day 6 to day 0 ends the wait for the week's wrap before it
judges the commit (R129, R135), and a commit that is not due stays. The entry of the active table that is in force at the new
time gives the current rates (R137), and a switch queues TARIFF SWITCHED (R136; with no session and nothing running out it is
the one report of the mark). -/
def Obligations.SecondMarkMovesClockAndTariff : Prop :=
  (∀ s : State, ∃ t, exec .secondMark s = .next t ∧ t.tariff.clockValid = s.tariff.clockValid
    ∧ (s.tariff.clockValid = false → t.tariff.clock = s.tariff.clock)
    ∧ (s.tariff.clockValid = true →
        (s.tariff.clock.second < 59 →
          t.tariff.clock = ⟨s.tariff.clock.day, s.tariff.clock.minute, s.tariff.clock.second + 1⟩)
        ∧ (s.tariff.clock.second = 59 → s.tariff.clock.minute < 1439 →
          t.tariff.clock = ⟨s.tariff.clock.day, s.tariff.clock.minute + 1, 0⟩)
        ∧ (s.tariff.clock.second = 59 → s.tariff.clock.minute = 1439 → s.tariff.clock.day < 6 →
          t.tariff.clock = ⟨s.tariff.clock.day + 1, 0, 0⟩)
        ∧ (s.tariff.clock.second = 59 → s.tariff.clock.minute = 1439 → s.tariff.clock.day = 6 →
          t.tariff.clock = ⟨0, 0, 0⟩)))
  ∧ (∀ s : State, s.tariff.clockValid = true → s.tariff.clock.second = 59 →
    s.tariff.commit = .nextMinute ∨ (∃ target, s.tariff.commit = .at target false ∧ s.tariff.clock.minute < 1439
      ∧ target ≤ s.tariff.clock.day * 1440 + s.tariff.clock.minute + 1) →
    ∃ t, exec .secondMark s = .next t ∧ t.tariff.active = s.tariff.standby ∧ t.tariff.standby = s.tariff.standby
      ∧ t.tariff.activePresent = true ∧ t.tariff.commit = .none)
  ∧ (∀ (s : State) (now : Time) (wraps : Bool), s.tariff.clockValid = true → s.tariff.clock.second = 59 →
    now = (if s.tariff.clock.minute < 1439 then ⟨s.tariff.clock.day, s.tariff.clock.minute + 1, 0⟩
           else if s.tariff.clock.day < 6 then ⟨s.tariff.clock.day + 1, 0, 0⟩ else ⟨0, 0, 0⟩) →
    wraps = decide (s.tariff.clock.day = 6 ∧ 1439 ≤ s.tariff.clock.minute) →
    ∃ t, exec .secondMark s = .next t ∧ t.tariff.standby = s.tariff.standby
      ∧ (s.tariff.commit = .nextMinute ∨ (∃ target awaited, s.tariff.commit = .at target awaited
            ∧ (awaited = false ∨ wraps = true) ∧ target ≤ now.day * 1440 + now.minute) →
          t.tariff.active = s.tariff.standby ∧ t.tariff.activePresent = true ∧ t.tariff.commit = .none
          ∧ ∀ i e, s.tariff.standby.inForce now i e → t.tariff.period = some ⟨i, e.rates⟩
            ∧ (s.sessions = [] → s.lowered.runOut = [] →
                t.link = s.lowered.link.reported (.tariffSwitched now ⟨i, e.rates⟩)))
      ∧ (∀ target awaited, s.tariff.commit = .at target awaited →
          (awaited = true ∧ wraps = false) ∨ now.day * 1440 + now.minute < target →
          t.tariff.commit = .at target (if wraps = true then false else awaited))
      ∧ (s.tariff.commit = .none → t.tariff.commit = .none)
      ∧ (s.tariff.commit = .none ∨ (∃ target awaited, s.tariff.commit = .at target awaited
            ∧ ((awaited = true ∧ wraps = false) ∨ now.day * 1440 + now.minute < target)) →
          t.tariff.active = s.tariff.active ∧ t.tariff.activePresent = s.tariff.activePresent
          ∧ (s.tariff.activePresent = false → t.tariff.period = s.tariff.period)
          ∧ (s.tariff.activePresent = true → ∀ i e, s.tariff.active.inForce now i e →
              t.tariff.period = some ⟨i, e.rates⟩)
          ∧ (s.sessions = [] → s.lowered.runOut = [] → t.link = s.lowered.link)))

/-- At a mark that is no minute mark, with nothing running out and one session `x` in the table: an OPEN session away from
every limit of its own is charged for the second (R114, R115, R146, R148): its accumulator takes rate times multiplier modulo
57,600, the whole units `k` are charged, and they are debited, or waived for a free class. A STALLED session counts a stalled
second and a HELD one a held second, its hold falling; neither is charged (R114, R117). With no session, such a mark lowers
every count of the lines, the accounts and the link monitor by 1, and where one stands then at 0 the mark is that expiry (R3,
R52, R83, R99, R104, R176). The charge, whole: its units keep to the cap or to 65,535, those the balance does not cover are
overrun, FUNDS LOW is told once, and a balance of 0 starts the funds grace (R146 to R150); the idle warning is told a minute
before the idle limit (R115). A session whose balance, grace, closing countdown, idle limit or hold is over closes with its
cause (R115, R117, R150, R151), and a settled band falls where R139 has it. A session that is in the table after a minute mark
has latched the current rate of its class, if it is open, and the current multiplier, after a charge at the old ones (R145).
Where the mark's selection, with a switch or without, gave the closed signal for its class, a session that is not HELD and had
no countdown has one of 300 and is told CLOSING, which stands alone where no other message of the session can fall at the
mark; where it gave the reopened signal, its countdown is absent; else a countdown goes on, lowered by the charge alone (R138,
R151, R153, R154). The model's choices in it: what comes first within a mark (log entry 8), and that each mark draws its order
and counts the draw (log entry 2). -/
def Obligations.SecondMarkCountsForASession : Prop :=
  (∀ (s : State) (x : Session) (a : Account) (k : Nat),
    s.sessions = [x] → x.state = .open → (s.tariff.clockValid = true → s.tariff.clock.second ≠ 59) →
    (∀ p : Port, (s.line p).window = none ∧ ∀ d, (s.line p).holder ≠ .dialogue d) →
    (∀ y ∈ s.accounts, y.lock = .open) → s.link.host = .up → s.link.downRemaining = none →
    s.findAccount x.account = some a → k = (x.meter.acc + x.meter.rate * x.meter.multiplier) / 57600 →
    x.meter.capReached = false → x.snapshot.record.cap = 0 → x.meter.charged + k ≤ 65535 →
    (x.snapshot.record.free = true ∨ k < a.balance) → a.chargedTotal + k ≤ 16777215 → x.metered < 16777215 →
    x.snapshot.record.lowFunds = 0 → x.grace = none → x.countdown = none → x.snapshot.record.idleLimit = 0 →
    x.idle < 65535 →
    ∃ t, exec .secondMark s = .next t
      ∧ t.sessions = [{ x with
          metered := x.metered + 1, idle := x.idle + 1,
          meter := { x.meter with
            acc := (x.meter.acc + x.meter.rate * x.meter.multiplier) % 57600, charged := x.meter.charged + k,
            debited := if x.snapshot.record.free then x.meter.debited else x.meter.debited + k,
            waived := if x.snapshot.record.free then x.meter.waived + k else x.meter.waived } }]
      ∧ t.findAccount x.account = some { a with
          balance := if x.snapshot.record.free then a.balance else a.balance - k, chargedTotal := a.chargedTotal + k }
      ∧ t.bills = s.bills ∧ t.link = s.link)
  ∧ (∀ (s : State) (x : Session),
    s.sessions = [x] → (s.tariff.clockValid = true → s.tariff.clock.second ≠ 59) →
    (∀ p : Port, (s.line p).window = none ∧ ∀ d, (s.line p).holder ≠ .dialogue d) →
    (∀ y ∈ s.accounts, y.lock = .open) → s.link.downRemaining = none →
    (x.state = .stalled → x.stalled < 16777215 →
      ∃ t, exec .secondMark s = .next t ∧ t.sessions = [{ x with stalled := x.stalled + 1 }] ∧ t.accounts = s.accounts
        ∧ t.bills = s.bills)
    ∧ (∀ h, x.state = .held → x.hold = some h → 2 ≤ h → x.heldSeconds < 16777215 →
      ∃ t, exec .secondMark s = .next t
        ∧ t.sessions = [{ x with heldSeconds := x.heldSeconds + 1, hold := some (h - 1) }]
        ∧ t.accounts = s.accounts ∧ t.bills = s.bills))
  ∧ (∀ s : State, s.sessions = [] → s.withinMinute →
    (s.lowered.runOut = [] → exec .secondMark s = .next s.lowered)
    ∧ ∀ c, s.lowered.runOut = [c] → exec .secondMark s = exec c s.lowered)
  ∧ (∀ (s : State) (x : Session) (a : Account) (r : ClassRecord) (k cap u balance idle : Nat) (reached warns broke idles : Bool)
      (cause : Cause),
    s.sessions = [x] → x.state = .open → s.withinMinute → s.lowered.runOut = [] → s.link.host = .up → s.waitQueue = [] →
    s.findAccount x.account = some a → a.lock = .open → r = x.snapshot.record →
    k = (if x.meter.capReached then 0 else (x.meter.acc + x.meter.rate * x.meter.multiplier) / 57600) →
    cap = (if r.cap = 0 then 65535 else r.cap) → x.meter.charged ≤ cap → u = min k (cap - x.meter.charged) →
    reached = (x.meter.capReached || decide (r.cap ≠ 0 ∧ r.cap ≤ x.meter.charged + k)) →
    balance = (if r.free then a.balance else a.balance - u) →
    warns = decide (r.lowFunds ≠ 0 ∧ balance ≤ r.lowFunds ∧ x.fundsWarned = false) →
    broke = decide (r.free = false ∧ balance = 0 ∧ x.grace = none) → idle = min 65535 (x.idle + 1) →
    idles = decide (2 ≤ r.idleLimit ∧ idle = r.idleLimit * 60 - 60 ∧ x.idleWarned = false) →
    (¬ (broke = true ∧ r.grace = 0) → (∀ g, x.grace = some g → 1 < g) → (∀ c, x.countdown = some c → 1 < c) →
      ¬ (r.idleLimit ≠ 0 ∧ idle = r.idleLimit * 60) →
      ∃ t, exec .secondMark s = .next t
        ∧ t = { s.lowered with
            lines := t.lines, accounts := t.accounts,
            sessions := [{ x with
              metered := min 16777215 (x.metered + 1), idle := idle, idleWarned := x.idleWarned || idles,
              fundsWarned := x.fundsWarned || warns,
              grace := if broke then some r.grace else x.grace.map (· - 1), countdown := x.countdown.map (· - 1),
              meter := { x.meter with
                acc := if reached then 0 else (x.meter.acc + x.meter.rate * x.meter.multiplier) % 57600,
                charged := x.meter.charged + u, capReached := reached,
                debited := if r.free then x.meter.debited else x.meter.debited + min u a.balance,
                overrun := if r.free then x.meter.overrun else x.meter.overrun + (u - min u a.balance),
                waived := if r.free then x.meter.waived + u else x.meter.waived } }],
            link := if warns then s.link.reported (.fundsLow x.number x.account x.boundLine balance) else s.link }
        ∧ t.findAccount x.account = some { a with
            balance := balance, chargedTotal := min 16777215 (a.chargedTotal + u) }
        ∧ (∀ m, m ≠ x.account → t.findAccount m = s.lowered.findAccount m)
        ∧ ∀ p, t.line p = { s.lowered.line p with output := (t.line p).output }
          ∧ (x.boundLine ≠ some p → t.line p = s.lowered.line p)
          ∧ (x.boundLine = some p → ∀ q, q = (if warns then joined (s.line p).shown s.messages[slotFundsLow] else (s.line p).shown) →
              (t.line p).shown = if idles then joined q s.messages[slotIdleWarning] else q))
    ∧ ((cause = .fundsExhausted ∧ ((broke = true ∧ r.grace = 0) ∨ ∃ g, x.grace = some g ∧ g ≤ 1))
        ∨ (¬ (broke = true ∧ r.grace = 0) ∧ (∀ g, x.grace = some g → 1 < g) ∧
            ((cause = .closedHours ∧ ∃ c, x.countdown = some c ∧ c ≤ 1)
              ∨ (cause = .idle ∧ (∀ c, x.countdown = some c → 1 < c) ∧ r.idleLimit ≠ 0 ∧ idle = r.idleLimit * 60))) →
      ∃ t b, exec .secondMark s = .next t ∧ t.sessions = [] ∧ t.bills = s.bills ++ [b] ∧ b.session = x.number
        ∧ (s.bandSettled → t.tariff.band = s.tariff.steps.fallen s.tariff.band 0)
        ∧ b.cause = cause ∧ ∀ p, x.boundLine = some p → (s.line p).state = .connected →
            (t.line p).state = .dropping ∧ (t.line p).window = some 10 ∧ (t.line p).holder = .none))
  ∧ (∀ (s : State) (x : Session) (h : Nat), s.sessions = [x] → x.state = .held → x.hold = some h → h ≤ 1 → s.withinMinute →
    s.lowered.runOut = [] → s.waitQueue = [] →
    ∃ t b, exec .secondMark s = .next t ∧ t.sessions = [] ∧ t.bills = s.bills ++ [b] ∧ b.session = x.number
      ∧ (s.bandSettled → t.tariff.band = s.tariff.steps.fallen s.tariff.band 0) ∧ b.cause = .holdExpired ∧ b.heldSeconds = min 16777215 (x.heldSeconds + 1))
  ∧ (∀ (s : State) (x : Session), s.sessions = [x] → s.tariff.clockValid = true → s.tariff.clock.second = 59 →
    s.lowered.runOut = [] → s.waitQueue = [] →
    ∃ t, exec .secondMark s = .next t ∧ (x.state = .stalled → t.sessions ≠ [])
      ∧ ∀ y ∈ t.sessions, y.number = x.number
        ∧ y.meter.multiplier = (if x.snapshot.record.surcharge then t.tariff.steps.multiplier t.tariff.band else 16)
        ∧ (∀ cu, t.openAt x.snapshot.classNo cu → y.meter.rate = cu)
        ∧ ((∀ cu, ¬ t.openAt x.snapshot.classNo cu) → y.meter.rate = x.meter.rate)
        ∧ (x.state = .open → x.meter.capReached = false → x.snapshot.record.cap = 0 →
            y.meter.acc = (x.meter.acc + x.meter.rate * x.meter.multiplier) % 57600))
  ∧ (∀ (s : State) (x : Session) (count : Option Nat), s.sessions = [x] → s.tariff.clockValid = true →
    s.tariff.clock.second = 59 → s.lowered.runOut = [] → s.waitQueue = [] →
    count = (if x.state = .open then x.countdown.map (· - 1) else x.countdown) →
    ∃ t, exec .secondMark s = .next t
      ∧ (s.tariff.period = none → ∀ y ∈ t.sessions, y.countdown = count)
      ∧ ∀ w v, s.tariff.period = some w → t.tariff.period = some v →
        (∀ y ∈ t.sessions, y.countdown = x.signalled w v count)
        ∧ (x.told w v = false → x.state = .stalled → t.lines = s.lowered.lines)
        ∧ (∀ p, x.told w v = true → x.boundLine = some p → t.sessions ≠ [] →
            x.state = .stalled ∨ (x.snapshot.record.lowFunds = 0 ∧ x.snapshot.record.idleLimit = 0) →
            (t.line p).shown = joined (s.line p).shown s.messages[slotClosing]
            ∧ ∀ q, q ≠ p → t.line q = s.lowered.line q))

/-! ## Expiries on lines -/

/-- The answer window's expiry is the NO CARRIER fault and the speed window's the NO SPEED fault (R9, R12): the retry count
and the destination are what the policy gives (R59 to R61), the FAULT event is raised unless the mode is IGNORE, and the line
goes on hook into GUARD with CALL ENDED, reason DROPPED (R62). A line that is not yet CONNECTED has no holder (R2, R13, R112).
The model's choices in it: the command acts whatever is left of the window (log entry 7), and what going on hook takes from the
line's record, with echo and the assembly settings at their call-start values (log entry 10) and the search attempts kept
(log entry 17). -/
def Obligations.WindowExpiryEndsTheCall : Prop :=
  ∀ (s : State) (p : Port) (c : Instr) (k : FaultKind) (e : PolicyEntry),
    (c = .answerWindowExpiry p ∧ (s.line p).state = .answering ∧ k = .noCarrier ∧ e = s.policies.noCarrier)
      ∨ (c = .speedWindowExpiry p ∧ (s.line p).state = .searching ∧ k = .noSpeed ∧ e = s.policies.noSpeed) →
    (s.line p).holder = .none →
    ∀ count, count = (if e.mode = .retry then min 15 ((s.line p).retryCount + 1) else (s.line p).retryCount) →
    exec c s = .next { s with
      lines := s.lines.set p { (s.line p).releaseCall with
        state := .guard, window := some 2, retryCount := count, lastEvent := some (.callEnded .dropped),
        destination :=
          if e.mode = .latch then .latched
          else if e.mode = .retry then
            if e.retryLimit ≠ 0 ∧ e.retryLimit ≤ count then .latched else .resting e.periodIndex
          else .idle },
      inputWait := without p s.inputWait, waitQueue := without p s.waitQueue,
      link := (if e.mode = .ignore then s.link else s.link.evented p (.fault k)).evented p (.callEnded .dropped) }

/-- A DROPPING line goes on hook when its queue and its fill have been sent and when the drain limit runs out, with CALL ENDED,
reason DROPPED, and no destination but IDLE (R15). With characters or fill left, DROP_DRAINED does nothing (log entry 6). A GUARD
line leaves for its destination (R16, R63, R64): into IDLE with the ring detector started afresh and ring already present timed
(R4, R7), into RESTING with the window of its retry period, into LATCHED with no window; the rest of its record is as it was.
A RESTING line whose period is over enters IDLE with a RESTORED event, its retry count kept (R63). Each names the whole next
state. The model's choices in it: an expiry acts whatever is left of its count (log entry 7), and what going on hook
takes from the line's record (log entries 10 and 17). -/
def Obligations.DroppingGuardAndRestEnd : Prop :=
  ∀ (s : State) (p : Port),
    (∀ c : Instr, (s.line p).state = .dropping →
      c = .drainLimitExpiry p ∨ (c = .dropDrained p ∧ (s.line p).output = [] ∧ (s.line p).fill = 0) →
      exec c s = .next { s with
        lines := s.lines.set p { (s.line p).releaseCall with
          state := .guard, window := some 2, destination := .idle, lastEvent := some (.callEnded .dropped) },
        inputWait := without p s.inputWait, waitQueue := without p s.waitQueue,
        link := s.link.evented p (.callEnded .dropped) })
    ∧ ((s.line p).output ≠ [] ∨ (s.line p).fill ≠ 0 → exec (.dropDrained p) s = .next s)
    ∧ ((s.line p).state = .guard → ∃ t, exec (.guardTimeExpiry p) s = .next t
      ∧ t = { s with lines := s.lines.set p (t.line p) }
      ∧ ((s.line p).destination = .idle → t.line p = { s.line p with
          state := .idle, window := none, ringCount := 0, phase := .on, stuckHold := false,
          presenceTimed := (s.line p).ringInput, absenceTimed := false, abandonRunning := false })
      ∧ (∀ i, (s.line p).destination = .resting i → t.line p = { s.line p with
          state := .resting, destination := .idle,
          window := some (([10, 30, 60, 120, 300, 600, 1200, 1800] : List Nat).getD i 1800) })
      ∧ ((s.line p).destination = .latched → t.line p = { s.line p with
          state := .latched, window := none, destination := .idle }))
    ∧ ((s.line p).state = .resting →
      exec (.retryPeriodExpiry p) s = .next { s with
        lines := s.lines.set p { (s.line p).enterIdle with lastEvent := some .restored },
        link := s.link.evented p .restored })

/-- The sign-on limit in GREETING or ENTRY and the wait limit in WAITING run out: GOODBYE is queued if it fits, the phase becomes
FAREWELL, and the line enters DROPPING with its drain limit at 10 (R14, R99, R104). A noise window's expiry clears the count
and starts the window again at the length in force (R52); a timed lock's expiry opens the account with its repeats and
failures kept, and no other account's (R83). The model's choice in it: each expiry acts whatever is left of its count (log
entry 7). -/
def Obligations.LimitsOfDialogueNoiseAndLockExpire : Prop :=
  (∀ (s : State) (p : Port) (d : Dialogue) (c : Instr), (s.line p).state = .connected → (s.line p).holder = .dialogue d →
    (c = .signOnLimitExpiry p ∧ (d.phase = .greeting ∨ d.phase = .entry)) ∨ (c = .waitLimitExpiry p ∧ d.phase = .waiting) →
    ∃ t, exec c s = .next t ∧ t = { s with lines := s.lines.set p (t.line p), waitQueue := without p s.waitQueue }
      ∧ (t.line p).state = .dropping ∧ (t.line p).window = some 10 ∧ (t.line p).noiseWindow = none
      ∧ (t.line p).holder = .dialogue ⟨.farewell, d.attempts, .stopped, none, none⟩
      ∧ (t.line p).output.map (·.code) = (s.line p).output.map (·.code)
          ++ (if (s.line p).output.length + (s.messages[slotGoodbye].length + 2) ≤ 256 then
                messageCodes s.messages[slotGoodbye] else []))
  ∧ ((∀ (s : State) (p : Port), (s.line p).state = .connected →
    exec (.noiseWindowExpiry p) s = .next { s with
      lines := s.lines.set p { s.line p with noiseCount := 0, noiseWindow := some s.link.limits.noiseWindow } })
  ∧ ∀ (s : State) (n k : Nat) (a : Account), s.findAccount n = some a → a.lock = .lockedTimed k →
    ∃ t, exec (.lockTimerExpiry n) s = .next t ∧ t = { s with accounts := t.accounts }
      ∧ t.findAccount n = some { a with lock := .open } ∧ ∀ m, m ≠ n → t.findAccount m = s.findAccount m)

/-! ## Expiries on sessions and the host -/

/-- The hold, the idle limit, the funds grace and the closing countdown of a session run out, each in the state that counts
it: with no line waiting, or slots in use above the host slot limit, the session closes with its cause, one bill record joins
the tail with the session's own values and the clock's time, the account's active count falls by 1, the lines that wait go on
waiting (R105), and a CONNECTED line that was bound drains its queue without a holder (R115, R117, R121, R122, R151, R161),
with the messages of its cause where they fit (R122, R44). A HELD session has no bound line (R111, R112). Where the bound line
is CONNECTED the close makes its reports in their order (R121, R139, R164). A settled band falls by one where the slots that
stay in use are below its threshold less the hysteresis, and else stays (R139). The model's choice in it: each expiry acts
whatever is left of its count (log entry 7). -/
def Obligations.ExpiriesCloseSessions : Prop :=
  ∀ (s : State) (n : Nat) (x : Session) (c : Instr) (w : Cause), s.findSession n = some x →
    s.waitQueue = [] ∨ s.link.limits.hostSlots < s.sessions.length →
    (c = .holdExpiry n ∧ x.state = .held ∧ w = .holdExpired)
      ∨ (c = .idleLimitExpiry n ∧ x.state = .open ∧ x.snapshot.record.idleLimit ≠ 0 ∧ w = .idle)
      ∨ (c = .fundsGraceExpiry n ∧ x.state = .open ∧ x.grace ≠ none ∧ w = .fundsExhausted)
      ∨ (c = .closingCountdownExpiry n ∧ x.state = .open ∧ x.countdown ≠ none ∧ w = .closedHours) →
    (x.state = .held → x.boundLine = none) →
    ∃ t b, exec c s = .next t ∧ t.bills = s.bills ++ [b] ∧ t.sessions = s.sessions.eraseP (fun y => y.number == n)
      ∧ b.session = n ∧ b.account = x.account ∧ b.classNo = x.snapshot.classNo ∧ b.firstLine = x.firstLine
      ∧ b.lastLine = x.lastLine ∧ b.start = x.start ∧ b.finish = s.tariff.clock ∧ b.metered = x.metered
      ∧ b.stalled = x.stalled ∧ b.heldSeconds = x.heldSeconds ∧ b.reattaches = x.reattaches ∧ b.cause = w
      ∧ (∀ a, s.findAccount x.account = some a →
          ∃ a', t.findAccount x.account = some a' ∧ a'.active = a.active - 1 ∧ a'.lock = a.lock ∧ a'.failures = a.failures)
      ∧ (∀ p, x.boundLine = some p → (s.line p).state = .connected →
          (t.line p).state = .dropping ∧ (t.line p).window = some 10 ∧ (t.line p).holder = .none
          ∧ (t.line p).shown =
              joined (if w = .fundsExhausted then joined (s.line p).shown s.messages[slotNoFunds] else (s.line p).shown)
                s.messages[slotGoodbye])
      ∧ ((∀ p, x.boundLine = some p → (s.line p).state = .connected) →
          (t.tariff.band = s.tariff.band ∨ t.tariff.band + 1 = s.tariff.band) →
          t.link = s.closeReports x w t.tariff.band)
      ∧ ((∀ p, x.boundLine = some p → p ∉ s.waitQueue) → t.waitQueue = s.waitQueue)
      ∧ (s.bandSettled → t.tariff.band = s.tariff.steps.fallen s.tariff.band (s.sessions.length - 1))

/-- END SESSION (R123): number 0 is refused BAD VALUE and a number that names no session NOT FOUND. Otherwise the session
closes with cause HOST ENDED, its charge is finalized (R155, R156), and the reply carries the session and the cause. An
accumulator of half a unit or more is one further unit, if it fits under the cap, or under 65,535 with cap 0; a unit that
brings the charge to a non-zero cap sets cap reached; with cap reached set no unit is added. The class minimum then applies,
and the units are debited as far as the balance goes (R148). An OPEN or STALLED session's CONNECTED line is told GOODBYE and
enters DROPPING; a HELD session has no line (R123). A settled band falls where R139 has it, and where a waiting line is then
admitted it may rise again. A close that frees a slot evaluates the wait queue (R105): the line at its head whose account
passes the checks of R106 is admitted to a new session beside those that stay, and the lines behind it, with no slot left for
them, go on waiting in their order (R98, R102); a head whose account fails is dropped with its message, and the slot passes on
to the next. A close that leaves slots in use at or above the host slot limit, which an order may have lowered, admits no
line, and the lines that wait go on waiting (R105). -/
def Obligations.EndSessionFinalizesTheCharge : Prop :=
  (∀ (s : State) (b1 b0 : Byte), s.ready →
    (beNat [b1, b0] = 0 → exec (.endSession [b1, b0]) s = .next (s.replied 0x29#8 .badValue []))
    ∧ (beNat [b1, b0] ≠ 0 → s.findSession (beNat [b1, b0]) = none →
      exec (.endSession [b1, b0]) s = .next (s.replied 0x29#8 .notFound [])))
  ∧ (∀ (s : State) (b1 b0 : Byte) (x : Session) (a : Account) (limit c u : Nat) (rounds : Bool), s.ready →
    s.waitQueue = [] ∨ s.link.limits.hostSlots < s.sessions.length →
    beNat [b1, b0] ≠ 0 → s.findSession (beNat [b1, b0]) = some x → s.findAccount x.account = some a → a.chargedTotal ≤ 16777215 →
    limit = (if x.snapshot.record.cap = 0 then 65535 else x.snapshot.record.cap) → x.meter.charged ≤ limit →
    rounds = decide (x.meter.capReached = false ∧ 28800 ≤ x.meter.acc ∧ x.meter.charged < limit) →
    c = x.meter.charged + (if rounds then 1 else 0) → u = max c x.snapshot.record.minCharge - x.meter.charged →
    x.meter.rounded = false → x.meter.minApplied = false →
    ∃ t b, exec (.endSession [b1, b0]) s = .next t ∧ t.bills = s.bills ++ [b] ∧ b.cause = .hostEnded
      ∧ t.sessions = s.sessions.eraseP (fun y => y.number == beNat [b1, b0])
      ∧ b.meter = {
          charged := x.meter.charged + u, rounded := rounds, minApplied := decide (c < x.snapshot.record.minCharge),
          capReached := x.meter.capReached || decide (28800 ≤ x.meter.acc ∧ x.snapshot.record.cap ≠ 0 ∧ limit ≤ x.meter.charged + 1),
          debited := if x.snapshot.record.free then x.meter.debited else x.meter.debited + min u a.balance,
          overrun := if x.snapshot.record.free then x.meter.overrun else x.meter.overrun + (u - a.balance),
          waived := if x.snapshot.record.free then x.meter.waived + u else x.meter.waived }
      ∧ t.findAccount x.account = some { a with
          balance := if x.snapshot.record.free then a.balance else a.balance - u,
          chargedTotal := min 16777215 (a.chargedTotal + u), active := a.active - 1 }
      ∧ (∀ m, m ≠ x.account → t.findAccount m = s.findAccount m)
      ∧ t.link.replyPath = some ⟨0x29#8, .done, [b1, b0, 3#8]⟩
      ∧ (∀ p, x.boundLine = some p → (s.line p).state = .connected →
          (t.line p).state = .dropping ∧ (t.line p).window = some 10 ∧ (t.line p).holder = .none
          ∧ (t.line p).shown = joined (s.line p).shown s.messages[slotGoodbye]
          ∧ (t.line p).partialRecord = {} ∧ (t.line p).waitingRecord = none ∧ (t.line p).drainWanted = false
          ∧ ∀ q, q ≠ p → t.line q = s.line q)
      ∧ (x.boundLine = none → t.lines = s.lines)
      ∧ ((∀ p, x.boundLine = some p → (s.line p).state = .connected) →
          (t.tariff.band = s.tariff.band ∨ t.tariff.band + 1 = s.tariff.band) →
          t.link = { s.closeReports x .hostEnded t.tariff.band with
            timeoutRunning := s.link.limits.linkTimeout != 0, replyPath := some ⟨0x29#8, .done, [b1, b0, 3#8]⟩ })
      ∧ ((∀ p, x.boundLine = some p → p ∉ s.waitQueue) → t.waitQueue = s.waitQueue
          ∧ ∀ q ∈ s.waitQueue, t.line q = s.line q)
      ∧ (s.bandSettled → t.tariff.band = s.tariff.steps.fallen s.tariff.band (s.sessions.length - 1)))
  ∧ (∀ (s : State) (b1 b0 : Byte) (x : Session) (p : Port) (rest : List Port) (m : Nat) (a : Account), s.ready →
    s.waitQueue = p :: rest → p ∉ rest →
    beNat [b1, b0] ≠ 0 → s.findSession (beNat [b1, b0]) = some x → x.boundLine ≠ some p → x.account ≠ m → s.waitsFor p m →
    s.headPasses m a → s.sessions.length ≤ 32 → s.sessions.length ≤ s.link.limits.hostSlots →
    rest = [] ∨ s.sessions.length = s.link.limits.hostSlots →
    ∃ t y b, exec (.endSession [b1, b0]) s = .next t
      ∧ t.sessions = s.sessions.eraseP (fun z => z.number == beNat [b1, b0]) ++ [y] ∧ t.bills = s.bills ++ [b]
      ∧ y.account = m ∧ y.state = .open ∧ y.boundLine = some p ∧ y.firstLine = p ∧ y.lastLine = p
      ∧ y.start = s.tariff.clock ∧ y.snapshot = ⟨a.classNo, s.classes[a.classNo]⟩ ∧ y.meter.charged = 0 ∧ y.meter.acc = 0
      ∧ t.waitQueue = rest ∧ (t.line p).state = .connected ∧ (t.line p).holder = .session y.number
      ∧ (t.line p).retryCount = 0 ∧ t.findAccount m = some { a with active := a.active + 1 }
      ∧ (∀ q, q ≠ p → x.boundLine ≠ some q → t.line q = s.line q)
      ∧ (s.bandSettled → t.tariff.band = s.tariff.steps.risen
          (s.tariff.steps.fallen s.tariff.band (s.sessions.length - 1)) s.sessions.length))
  ∧ (∀ (s : State) (b1 b0 : Byte) (x : Session) (p q : Port) (rest : List Port) (k m : Nat) (told : Slot) (a : Account), s.ready →
    s.waitQueue = p :: q :: rest → s.waitQueue.Nodup →
    beNat [b1, b0] ≠ 0 → s.findSession (beNat [b1, b0]) = some x → x.boundLine ≠ some p → x.boundLine ≠ some q →
    x.account ≠ k → x.account ≠ m → s.waitsFor p k → s.headFails k told → s.waitsFor q m → s.headPasses m a →
    s.sessions.length ≤ 32 → s.sessions.length = s.link.limits.hostSlots →
    ∃ t y, exec (.endSession [b1, b0]) s = .next t
      ∧ t.sessions = s.sessions.eraseP (fun z => z.number == beNat [b1, b0]) ++ [y] ∧ t.waitQueue = rest
      ∧ y.account = m ∧ y.state = .open ∧ y.boundLine = some q ∧ (t.line q).holder = .session y.number
      ∧ t.findAccount m = some { a with active := a.active + 1 }
      ∧ (∀ talk, (s.line p).holder = .dialogue talk → s.dropsHead p talk told (t.line p)))

/-- The link timeout's expiry takes the host DOWN (R175): every OPEN session is STALLED and no other session changes (R118),
the wait queue is emptied, its CONNECTED lines entering FAREWELL and DROPPING (R107), seconds down start at 0 and the
host-down limit starts if it is set (R176). NOT AVAILABLE is told on the line of a stalled session and on a line that waited,
where it fits (R107, R118); every line that did not wait keeps all but its output queue, and with the waiting lines CONNECTED
nothing is reported. That limit's expiry closes every session with cause HOST LOST, in whatever order (R120, R176): the table
is empty, and the bill queue has one new record for each session. The CONNECTED line of a STALLED session goes on hook at
once, into GUARD with CALL ENDED, reason DROPPED, and no GOODBYE; a line without a session is as it was (R14, R120, R122). The
falling counts leave the band at 0 but where the hysteresis holds it higher (R139). The model's choices in it: the limit's
expiry acts whatever is left of the limit (log entry 7), and what going on hook takes from the line's record (log entries 10
and 17). -/
def Obligations.HostLossStallsThenCloses : Prop :=
  (∀ s : State, s.link.host = .up → s.link.timeoutRunning = true →
    ∃ t, exec .linkTimeoutExpiry s = .next t
      ∧ t = { s with
          lines := t.lines, inputWait := t.inputWait, waitQueue := [],
          sessions := s.sessions.map (fun x => if x.state = .open then { x with state := .stalled } else x),
          link := { s.link with
            host := .down, timeoutRunning := false, secondsDown := 0, downExpired := false,
            downRemaining := if s.link.limits.hostDown = 0 then none else some (s.link.limits.hostDown * 60),
            reports := t.link.reports, lost := t.link.lost } }
      ∧ ∀ p ∈ s.waitQueue, ∀ d, (s.line p).state = .connected → (s.line p).holder = .dialogue d →
          (t.line p).state = .dropping ∧ (t.line p).holder = .dialogue ⟨.farewell, d.attempts, .stopped, none, none⟩)
  ∧ (∀ s : State, s.link.host = .up → s.link.timeoutRunning = true →
    ∃ t, exec .linkTimeoutExpiry s = .next t
      ∧ (∀ p, p ∉ s.waitQueue → t.line p = { s.line p with output := (t.line p).output })
      ∧ ((∀ p ∈ s.waitQueue, (s.line p).state = .connected) →
          t.inputWait = s.inputWait ∧ t.link.reports = s.link.reports ∧ t.link.lost = s.link.lost)
      ∧ (∀ x p, s.sessions.filter (fun y => y.state == .open) = [x] → x.boundLine = some p → p ∉ s.waitQueue →
          (t.line p).shown = joined (s.line p).shown s.messages[slotNotAvailable])
      ∧ (∀ p, s.waitQueue = [p] → (s.line p).state = .connected → (∀ x ∈ s.sessions, x.boundLine ≠ some p) →
          (t.line p).shown = joined (s.line p).shown s.messages[slotNotAvailable]))
  ∧ (∀ (s : State) (m : Nat), s.link.host = .down → s.link.downRemaining = some m → s.waitQueue = [] →
    ∃ t bs, exec .hostDownLimitExpiry s = .next t ∧ t.sessions = [] ∧ t.bills = s.bills ++ bs
      ∧ bs.length = s.sessions.length ∧ (∀ b ∈ bs, b.cause = .hostLost) ∧ t.link.host = .down
      ∧ t.link.downRemaining = none ∧ t.link.downExpired = true
      ∧ (s.bandSettled → t.tariff.band = s.tariff.steps.emptied s.tariff.band))
  ∧ (∀ (s : State) (m : Nat) (k : Link), s.link.host = .down → s.link.downRemaining = some m → s.waitQueue = [] →
    k = { s.link with downRemaining := none, downExpired := true } →
    ∃ t, exec .hostDownLimitExpiry s = .next t
      ∧ (∀ x ∈ s.sessions, x.state = .stalled → s.findSession x.number = some x → ∀ p, x.boundLine = some p →
          (s.line p).state = .connected →
          t.line p = { (s.line p).releaseCall with
            state := .guard, window := some 2, destination := .idle, lastEvent := some (.callEnded .dropped) })
      ∧ (∀ p, (∀ x ∈ s.sessions, x.boundLine ≠ some p) → t.line p = s.line p)
      ∧ (∀ x p, s.sessions = [x] → x.state = .stalled → x.boundLine = some p → (s.line p).state = .connected →
          t.inputWait = without p s.inputWait
          ∧ (t.tariff.band = s.tariff.band ∨ t.tariff.band + 1 = s.tariff.band →
              t.link = (({ s with link := k } : State).closeReports x .hostLost t.tariff.band).evented p (.callEnded .dropped))))

/-! ## Codes -/

/-- The codes of these enumerations of 11.1 and the reply codes of R168, each list in the order of its codes from 0: line
state, speed, parity, after-guard destination, CALL ENDED reason, fault kind, policy mode, lock policy, lock state, session
state, line holder, record status, assembly mode, pending commit, close cause, held reason and reply code. The windows, the
line events and the dialogue phases other than none begin at 1. -/
def Obligations.CodesOfTheEnumerations : Prop :=
  ([.outOfService, .idle, .ringing, .answering, .searching, .connected, .dropping, .guard, .resting, .latched] :
      List LineState).map (·.code) = List.range 10
  ∧ ([none, some .b110, some .b150, some .b300, some .b600, some .b1200] : List (Option Speed)).map speedCode = List.range 6
  ∧ ([none, some .even, some .odd] : List (Option Parity)).map parityCode = List.range 3
  ∧ ([.answering, .searching, .dropping, .guard, .resting] : List LineState).map (·.windowCode) = [1, 2, 3, 4, 5]
  ∧ (∀ i, ([.idle, .resting i, .latched] : List Destination).map (·.code) = List.range 3)
  ∧ (∀ sp q r k, ([.answered, .speedFound sp q, .callEnded r, .fault k, .restored] : List LineEvent).map (·.code) = [1, 2, 3, 4, 5])
  ∧ ([.carrierLost, .dropped, .removed] : List EndReason).map (·.code) = List.range 3
  ∧ ([.noCarrier, .noSpeed, .noise, .longSpace, .ringStuck] : List FaultKind).map (·.code) = List.range 5
  ∧ ([.latch, .retry, .report, .ignore] : List PolicyMode).map (·.code) = List.range 4
  ∧ ([.off, .report, .timed, .latch] : List LockPolicy).map (·.code) = List.range 4
  ∧ (∀ n, ([.open, .lockedTimed n, .lockedHeld] : List LockState).map (·.code) = List.range 3)
  ∧ ([.open, .stalled, .held] : List SessionState).map (·.code) = List.range 3
  ∧ (∀ d n, ([.none, .dialogue d, .session n] : List Holder).map (·.code) = List.range 3)
  ∧ ([.greeting, .entry, .waiting, .farewell] : List Phase).map (·.code) = [1, 2, 3, 4]
  ∧ ([.complete, .full, .exact, .short, .long] : List RecordStatus).map (·.code) = List.range 5
  ∧ ([.line, .count] : List AssemblyMode).map (·.code) = List.range 2
  ∧ (∀ m w, ([.none, .nextMinute, .at m w] : List Commit).map (·.code) = List.range 3)
  ∧ ([.hangup, .lineFault, .holdExpired, .hostEnded, .fundsExhausted, .closedHours, .idle, .lineRemoved, .hostLost, .restart] :
      List Cause).map (·.code) = List.range 10
  ∧ ([.carrierLost, .lineFault] : List HeldReason).map (·.code) = List.range 2
  ∧ ([.done, .clamped, .busy, .notReady, .badValue, .notFound, .inUse, .full, .held, .empty, .check, .unknown, .duplicate,
      .incomplete] : List ReplyCode).map (·.number) = List.range 14

/-! ## Ringing and carrier -/

/-- The ring detector (R4 to R7): what a new level of the ring indicate input starts and stops; the start of a ring; its
completion, which counts it, or answers the line at its answer ring count; and the abandon timer's expiry. A presence of ring
that reaches 8 s in IDLE or RINGING is the RING STUCK fault, and the line goes where the policy's mode sends it, without GUARD
(R7, R58 to R61). The model's choice in it: the phase of a detector that has stopped stands at ON (log entry 23). -/
def Obligations.RingDetector : Prop :=
  (∀ (s : State) (p : Port),
    (∀ v : Bool, exec (.ringIndicateChange p v) s = .next (s.setLine p
        (if (s.line p).ringInput = v then s.line p
         else if (s.line p).state = .idle ∨ (s.line p).state = .ringing then
           if v then { s.line p with ringInput := true, presenceTimed := true, absenceTimed := false }
           else { s.line p with
             ringInput := false, presenceTimed := false, stuckHold := false,
             absenceTimed := decide ((s.line p).phase = .off) }
         else { s.line p with ringInput := v })))
    ∧ ((s.line p).phase = .on → (s.line p).presenceTimed = true →
        ((s.line p).state = .idle → exec (.ringStart p) s = .next { s with
          lines := s.lines.set p { s.line p with state := .ringing, ringCount := 0, phase := .off } })
        ∧ ((s.line p).state = .ringing → exec (.ringStart p) s = .next { s with
          lines := s.lines.set p { s.line p with phase := .off, abandonRunning := false } }))
    ∧ ((s.line p).state = .ringing → (s.line p).phase = .off → (s.line p).absenceTimed = true →
        ((s.line p).ringCount + 1 < (s.line p).answerRingCount → exec (.ringCompletion p) s = .next { s with
          lines := s.lines.set p { s.line p with
            ringCount := (s.line p).ringCount + 1, phase := .on, absenceTimed := false, abandonRunning := true } })
        ∧ ((s.line p).ringCount + 1 = (s.line p).answerRingCount → exec (.ringCompletion p) s = .next { s with
          lines := s.lines.set p { s.line p with
            state := .answering, ringCount := 0, phase := .on, presenceTimed := false, absenceTimed := false,
            abandonRunning := false, stuckHold := false, window := some s.link.limits.answerWindow,
            carrierTiming := if (s.line p).carrierInput then .present else .none, lastEvent := some .answered },
          link := s.link.evented p .answered }))
    ∧ ((s.line p).state = .ringing → (s.line p).abandonRunning = true →
        exec (.abandonTimerExpiry p) s = .next { s with lines := s.lines.set p (s.line p).enterIdle }))
  ∧ (∀ (s : State) (p : Port) (e : PolicyEntry) (count : Nat), e = s.policies.ringStuck →
    (s.line p).state = .idle ∨ (s.line p).state = .ringing → (s.line p).presenceTimed = true →
    count = (if e.mode = .retry then min 15 ((s.line p).retryCount + 1) else (s.line p).retryCount) →
    ∃ t, exec (.ringStuck p) s = .next t
      ∧ t = { s with lines := s.lines.set p (t.line p),
                     link := if e.mode = .ignore then s.link else s.link.evented p (.fault .ringStuck) }
      ∧ (t.line p).ringCount = 0 ∧ (t.line p).retryCount = count
      ∧ (e.mode = .latch ∨ (e.mode = .retry ∧ e.retryLimit ≠ 0 ∧ e.retryLimit ≤ count) →
          (t.line p).state = .latched ∧ (t.line p).window = none)
      ∧ (e.mode = .retry ∧ ¬ (e.retryLimit ≠ 0 ∧ e.retryLimit ≤ count) → (t.line p).state = .resting
          ∧ (t.line p).window = some (([10, 30, 60, 120, 300, 600, 1200, 1800] : List Nat).getD e.periodIndex 1800))
      ∧ (e.mode = .report ∨ e.mode = .ignore →
          (t.line p).state = .idle ∧ (t.line p).stuckHold = true ∧ (t.line p).presenceTimed = false))

/-- What a new level of the carrier detect input starts and stops, and carrier qualified present in ANSWERING, which begins
the speed search with its window (R8, R9). Carrier qualified lost ends the call (R13, R15): in SEARCHING and DROPPING, and in
CONNECTED with a dialogue, which ends, the line goes on hook with CALL ENDED, reason CARRIER LOST; in CONNECTED a session with
a hold time is held first, its binding undone and its meter and account untouched, and one with hold time 0 is closed first,
HANGUP (R116), and a settled band falls where R139 has it. The model's choices in it: what going on hook takes from the line's
record (log entries 10 and 17). -/
def Obligations.CarrierBeginsAndEndsTheCall : Prop :=
  (∀ (s : State) (p : Port),
    (∀ v : Bool, exec (.carrierDetectChange p v) s = .next (s.setLine p
        (if (s.line p).carrierInput = v then s.line p
         else { s.line p with
           carrierInput := v,
           carrierTiming :=
             if (s.line p).state = .answering then if v then .present else .none
             else if (s.line p).state = .searching ∨ (s.line p).state = .connected ∨ (s.line p).state = .dropping then
               if v then .none else .loss
             else .none })))
    ∧ ((s.line p).state = .answering → (s.line p).carrierTiming = .present →
        exec (.carrierQualifiedPresent p) s = .next { s with lines := s.lines.set p { s.line p with
          state := .searching, carrierTiming := .none, searchAttempts := 0, settling := false,
          window := some s.link.limits.speedWindow } }))
  ∧ (∀ (s : State) (p : Port), (s.line p).carrierTiming = .loss →
    ((s.line p).state = .searching ∨ (s.line p).state = .dropping
        ∨ ((s.line p).state = .connected ∧ ∃ d, (s.line p).holder = .dialogue d) →
      exec (.carrierQualifiedLost p) s = .next { s with
        lines := s.lines.set p { (s.line p).releaseCall with
          state := .guard, window := some 2, destination := .idle, lastEvent := some (.callEnded .carrierLost) },
        inputWait := without p s.inputWait, waitQueue := without p s.waitQueue,
        link := s.link.evented p (.callEnded .carrierLost) })
    ∧ ∀ (n : Nat) (x : Session), (s.line p).state = .connected → (s.line p).holder = .session n →
      s.findSession n = some x → x.snapshot.record.holdTime ≠ 0 →
      ∃ t, exec (.carrierQualifiedLost p) s = .next t
        ∧ t = { s with lines := s.lines.set p (t.line p), sessions := t.sessions, inputWait := without p s.inputWait,
                       waitQueue := without p s.waitQueue,
                       link := (s.link.reported
                         (.sessionHeld n x.account p .carrierLost x.snapshot.record.holdTime)).evented p
                           (.callEnded .carrierLost) }
        ∧ t.findSession n =
            some { x with state := .held, boundLine := none, hold := some x.snapshot.record.holdTime }
        ∧ (∀ m, m ≠ n → t.findSession m = s.findSession m)
        ∧ (t.line p).state = .guard ∧ (t.line p).window = some 2 ∧ (t.line p).destination = .idle
        ∧ (t.line p).holder = .none ∧ (t.line p).output = [] ∧ (t.line p).partialRecord = {}
        ∧ (t.line p).waitingRecord = none ∧ (t.line p).drainWanted = false ∧ (t.line p).speed = none)
  ∧ (∀ (s : State) (p : Port) (n : Nat) (x : Session), (s.line p).carrierTiming = .loss → (s.line p).state = .connected →
    (s.line p).holder = .session n → s.findSession n = some x → x.boundLine = some p → x.snapshot.record.holdTime = 0 →
    s.waitQueue = [] ∨ s.link.limits.hostSlots < s.sessions.length →
    ∃ t b, exec (.carrierQualifiedLost p) s = .next t ∧ t.sessions = s.sessions.eraseP (fun y => y.number == n)
      ∧ t.bills = s.bills ++ [b] ∧ b.session = n ∧ b.cause = .hangup
      ∧ t.line p = { (s.line p).releaseCall with
          state := .guard, window := some 2, destination := .idle, lastEvent := some (.callEnded .carrierLost) }
      ∧ (∀ q, q ≠ p → t.line q = s.line q) ∧ t.inputWait = without p s.inputWait ∧ t.waitQueue = without p s.waitQueue
      ∧ (t.tariff.band = s.tariff.band ∨ t.tariff.band + 1 = s.tariff.band →
          t.link = (s.closeReports x .hangup t.tariff.band).evented p (.callEnded .carrierLost))
      ∧ (s.bandSettled → t.tariff.band = s.tariff.steps.fallen s.tariff.band (s.sessions.length - 1)))

/-! ## The speed search -/

/-- The accept windows of the five speeds, in microseconds (R10), and the search (R11, R12). A success connects the line: its
speed and parity are set, its character fields take their call-start values, the first noise window begins (R52), SPEED FOUND
is raised, and a dialogue in GREETING begins with BANNER and PROMPT on the queue (R89). A loss of carrier that is being timed
goes on being timed (R8). A failed attempt counts; the third is the NO SPEED fault, whose policy gives the retry count and the
destination after GUARD (R59 to R62); after another the search settles. A failure is a width that no window accepts, or, with
a width that one does, data bits that are not CR or a first stop bit of space (R12). A line that is not yet CONNECTED has no
holder (R2, R13, R112). -/
def Obligations.SearchFindsSpeedOrFails : Prop :=
  (∀ w : Nat, (matchSpeed w = some .b110 ↔ 7955 ≤ w ∧ w ≤ 10227) ∧ (matchSpeed w = some .b150 ↔ 5834 ≤ w ∧ w ≤ 7500)
    ∧ (matchSpeed w = some .b300 ↔ 2917 ≤ w ∧ w ≤ 3749) ∧ (matchSpeed w = some .b600 ↔ 1459 ≤ w ∧ w ≤ 1875)
    ∧ (matchSpeed w = some .b1200 ↔ 729 ≤ w ∧ w ≤ 937))
  ∧ (∀ (s : State) (p : Port), (s.line p).state = .searching → (s.line p).settling = false → (s.line p).holder = .none →
    (∀ (w : Nat) (eighth : Bool) (sp : Speed) (par : Parity), matchSpeed w = some sp →
      par = (if eighth then .even else .odd) → (s.messages[slotBanner]).length ≤ 64 → (s.messages[slotPrompt]).length ≤ 64 →
      ∃ t, exec (.speedFound p w eighth) s = .next t
        ∧ t = { s with lines := s.lines.set p (t.line p), link := s.link.evented p (.speedFound sp par) }
        ∧ (t.line p).state = .connected ∧ (t.line p).window = none ∧ (t.line p).speed = some sp
        ∧ (t.line p).parity = some par ∧ (t.line p).noiseCount = 0 ∧ (t.line p).carrierTiming = (s.line p).carrierTiming
        ∧ (t.line p).noiseWindow = some s.link.limits.noiseWindow
        ∧ (t.line p).holder = .dialogue ⟨.greeting, 0, .running s.link.limits.signOn, none, none⟩
        ∧ (t.line p).echo = true ∧ (t.line p).settings = ⟨.line, 80, false, false, 47#7⟩
        ∧ (t.line p).partialRecord = {} ∧ (t.line p).lastEvent = some (.speedFound sp par)
        ∧ (t.line p).output.map (·.code) =
            messageCodes s.messages[slotBanner] ++ messageCodes s.messages[slotPrompt])
    ∧ (∀ (w : Nat) (f : SearchFailure),
      (f = .noWindow w ∧ ∀ sp, matchSpeed w ≠ some sp)
        ∨ (∃ sp, matchSpeed w = some sp ∧ (f = .stopSpace w ∨ ∃ code : Code, code ≠ 13#7 ∧ f = .notReturn w code)) →
      ((s.line p).searchAttempts < 2 → exec (.searchAttemptFailed p f) s = .next { s with
        lines := s.lines.set p { s.line p with searchAttempts := (s.line p).searchAttempts + 1, settling := true } })
      ∧ ((s.line p).searchAttempts = 2 → ∃ t, exec (.searchAttemptFailed p f) s = .next t
        ∧ t = { s with lines := s.lines.set p (t.line p), inputWait := without p s.inputWait,
                       waitQueue := without p s.waitQueue,
                       link := (if s.policies.noSpeed.mode = .ignore then s.link
                                else s.link.evented p (.fault .noSpeed)).evented p (.callEnded .dropped) }
        ∧ (t.line p).state = .guard ∧ (t.line p).window = some 2
        ∧ (t.line p).lastEvent = some (.callEnded .dropped)
        ∧ ∀ e count, e = s.policies.noSpeed →
            count = (if e.mode = .retry then min 15 ((s.line p).retryCount + 1) else (s.line p).retryCount) →
            (t.line p).retryCount = count
            ∧ (t.line p).destination =
              (if e.mode = .latch then .latched
               else if e.mode = .retry then
                 if e.retryLimit ≠ 0 ∧ e.retryLimit ≤ count then .latched else .resting e.periodIndex
               else .idle)))
    ∧ exec (.settleInterval p) { s with lines := s.lines.set p { s.line p with settling := true } } = .next s)

/-! ## Characters -/

/-- What one character does to a partial record, by the tables of R27 to R35: for any assembly settings, under masking or
not. Codes: 7 BEL, 8 BS, 9 TAB, 13 CR, 24 CAN, 127 DEL, 88 `X`, 94 `^`. -/
def Obligations.AssemblyFollowsTheTables : Prop :=
  ∀ (q : Partial) (a : AssemblySettings) (mask : Bool) (c : Code) (room : Nat),
    room = (if a.mode = .line then 128 else a.countN) →
    (c = 13#7 → (q.assemble a mask c).echo = [13#7, 10#7] ∧ (q.assemble a mask c).bell = false
      ∧ (q.assemble a mask c).rest.buffer = q.buffer
      ∧ (q.assemble a mask c).rest.marks =
          (if a.marking = true ∧ q.latch = true then q.marks ++ [q.buffer.length] else q.marks)
      ∧ (q.assemble a mask c).ended = some (
          if a.mode = .line then if q.lengthRefusal then .full else .complete
          else if q.lengthRefusal then .long else if q.buffer.length = a.countN then .exact else .short))
    ∧ (c = 8#7 ∨ c = 127#7 →
        (q.latch = true → q.assemble a mask c = ⟨{ q with latch := false }, [8#7, 32#7, 8#7], false, none⟩)
        ∧ (q.latch = false → q.buffer ≠ [] → q.assemble a mask c =
            ⟨{ q with buffer := q.buffer.dropLast, marks := q.marks.filter (· ≠ q.buffer.length - 1) },
              [8#7, 32#7, 8#7], false, none⟩)
        ∧ (q.latch = false → q.buffer = [] → q.assemble a mask c = ⟨q, [], true, none⟩))
    ∧ (c = 24#7 → q.assemble a mask c = ⟨{}, [94#7, 88#7, 13#7, 10#7], false, none⟩)
    ∧ (c.toNat < 32 → c ≠ 8#7 → c ≠ 9#7 → c ≠ 13#7 → c ≠ 24#7 → q.assemble a mask c = ⟨q, [], false, none⟩)
    ∧ ((32 ≤ c.toNat ∧ c.toNat ≤ 126) ∨ c = 9#7 →
        (a.marking = true ∧ q.marks.length < 8 ∧ c = a.separator ∧ q.latch = false →
          q.assemble a mask c =
            ⟨{ q with latch := true }, [if mask = true ∧ q.marks ≠ [] then 88#7 else c], false, none⟩)
        ∧ (¬ (a.marking = true ∧ q.marks.length < 8 ∧ c = a.separator ∧ q.latch = false) →
          (room ≤ q.buffer.length → q.assemble a mask c = ⟨{ q with lengthRefusal := true }, [], true, none⟩)
          ∧ (q.buffer.length < room → ∀ ms,
              ms = (if a.marking = true ∧ q.marks.length < 8 ∧ q.latch = true ∧ c ≠ a.separator then
                      q.marks ++ [q.buffer.length] else q.marks) →
              q.assemble a mask c =
                ⟨⟨q.buffer ++ [c], ms, false, q.lengthRefusal⟩, [if mask = true ∧ ms ≠ [] then 88#7 else c], false,
                  if a.mode = .count ∧ a.endAtCount = true ∧ q.buffer.length + 1 = a.countN then some .exact else none⟩)))

/-- A character received without error on a line in ENTRY that does not end the record is assembled under the sign-on settings,
whatever the line's own: LINE mode, field marking on with the separator `/`, echo ON and masking (R29, R36); nothing but the
partial record and the output queue changes.
A character received without error on a line that holds an OPEN session (R26, R28, R37, R48, R115). One that does not end the
record: the partial record and the echo are as assembly gives them, a kill brings pending settings into force, and the session's
idle count is cleared. One that ends it, CR or the last of a count (R30, R31): the record goes to the report queue as an INPUT
report if there is room, and otherwise waits at the list's tail; the partial record is empty and pending settings are in
force. The model's choice in it: a character is taken where State shows a pending break (log entry 24). -/
def Obligations.CharacterIsAssembled : Prop :=
  (∀ (s : State) (p : Port) (d : Dialogue) (c : Code) (bit : Bool) (r : Assembled),
    (s.line p).state = .connected → (s.line p).holder = .dialogue d → d.phase = .entry → (s.line p).accepts c bit →
    r = (s.line p).partialRecord.assemble ⟨.line, 80, false, true, 47#7⟩ true c → c ≠ 13#7 →
    r.ended = none ∧ exec (.characterReceived p c bit) s = .next { s with
      lines := s.lines.set p { s.line p with
        space := .none, partialRecord := r.rest, output := (s.line p).echoed (r.sent true) } })
  ∧ (∀ (s : State) (p : Port) (n : Nat) (x : Session) (c : Code) (bit : Bool) (r : Assembled),
    s.assembles p n x → (s.line p).accepts c bit →
    r = (s.line p).partialRecord.assemble (s.line p).settings false c → r.ended = none →
    ∃ t, exec (.characterReceived p c bit) s = .next t
      ∧ t = { s with
          lines := s.lines.set p { s.line p with
            space := .none, partialRecord := r.rest, output := (s.line p).echoed (r.sent (s.line p).echo),
            settings := if c = 24#7 then (s.line p).pendingSettings.getD (s.line p).settings else (s.line p).settings,
            pendingSettings := if c = 24#7 then none else (s.line p).pendingSettings },
          sessions := t.sessions }
      ∧ t.findSession n = some { x with idle := 0, idleWarned := false }
      ∧ ∀ m, m ≠ n → t.findSession m = s.findSession m)
  ∧ ∀ (s : State) (p : Port) (n : Nat) (x : Session) (c : Code) (bit : Bool) (r : Assembled) (st : RecordStatus)
    (record : InputRecord),
    s.assembles p n x → (s.line p).accepts c bit →
    r = (s.line p).partialRecord.assemble (s.line p).settings false c → r.ended = some st →
    record = ⟨st, false, r.rest.marks, r.rest.buffer⟩ →
    ∃ t, exec (.characterReceived p c bit) s = .next t
      ∧ t.findSession n = some { x with idle := 0, idleWarned := false }
      ∧ (∀ m, m ≠ n → t.findSession m = s.findSession m)
      ∧ (s.hasRoom → t = { s with
          lines := s.lines.set p { s.line p with
            space := .none, partialRecord := {}, output := (s.line p).echoed (r.sent (s.line p).echo),
            settings := (s.line p).pendingSettings.getD (s.line p).settings, pendingSettings := none },
          sessions := t.sessions,
          link := { s.link with reports := s.link.reports ++ [.input n p record] } })
      ∧ (¬ s.hasRoom → t = { s with
          lines := s.lines.set p { s.line p with
            space := .none, partialRecord := {}, output := (s.line p).echoed (r.sent (s.line p).echo),
            settings := (s.line p).pendingSettings.getD (s.line p).settings, pendingSettings := none,
            waitingRecord := some record },
          sessions := t.sessions, inputWait := s.inputWait ++ [p] })

/-- An error character in CONNECTED below the noise limit is counted (R25, R53); with substitute ON it is then handled
exactly as a received `*`, and with substitute OFF it goes no further. Both a framing error and a parity error are one. The
model's choice in it: a character is taken where State shows a pending break (log entry 24). -/
def Obligations.ErrorCharacterIsCounted : Prop :=
  ∀ (s : State) (p : Port) (c : Code) (bit : Bool) (i : Instr),
    i = .heldCharacterReceived p c bit ∨ (i = .characterReceived p c bit ∧ (s.line p).parityCheck = true
      ∧ ((s.line p).parity = some .even ∧ onesOf c bit % 2 = 1 ∨ (s.line p).parity = some .odd ∧ onesOf c bit % 2 = 0)) →
    (s.line p).state = .connected → (s.line p).noiseCount + 1 < s.policies.noise.noiseLimit →
    ((s.line p).substitute = true → ∀ b, (s.line p).accepts 42#7 b →
      exec i s = exec (.characterReceived p 42#7 b)
        (s.setLine p { s.line p with noiseCount := (s.line p).noiseCount + 1 }))
    ∧ ((s.line p).substitute = false →
      ∃ t, exec i s = .next t
        ∧ t = { s with
            lines := s.lines.set p { s.line p with noiseCount := (s.line p).noiseCount + 1, space := .none },
            sessions := t.sessions }
        ∧ ((∀ n, (s.line p).holder ≠ .session n) → t.sessions = s.sessions)
        ∧ ∀ n x, (s.line p).holder = .session n → s.findSession n = some x → x.state = .open →
            t.findSession n = some { x with idle := 0, idleWarned := false })

/-- The NOISE fault, which an error character at the noise limit is, and the LONG SPACE fault (R25, R42, R53, R58 to R62).
Under LATCH and RETRY the call ends, whatever holds the line: a dialogue ends, a session with a hold time becomes HELD, reason
LINE FAULT, and one with hold time 0 closes, LINE FAULT (R116), and a settled band falls where R139 has it. Under REPORT and
IGNORE the call goes on, the error character being substituted or discarded (R25, R53). The model's choices in it: what going
on hook takes from the line's record (log entries 10 and 17), and that the error character which is the NOISE fault clears the
idle seconds and idle warned of an OPEN session first, so that the session is held with idle 0 (log entry 12, DEDUCED from R26
and R115). The model's choice in it too: a character is taken where State shows a pending break (log entry 24). -/
def Obligations.FaultsInConnected : Prop :=
  ∀ (s : State) (p : Port) (i : Instr) (k : FaultKind) (e : PolicyEntry) (count : Nat) (ended : Line),
    (s.line p).state = .connected →
    (k = .longSpace ∧ e = s.policies.longSpace ∧ i = .longSpace p)
      ∨ (k = .noise ∧ e = s.policies.noise ∧ e.noiseLimit ≤ (s.line p).noiseCount + 1 ∧ ∃ c bit,
          i = .heldCharacterReceived p c bit ∨ (i = .characterReceived p c bit ∧ (s.line p).parityCheck = true
            ∧ ((s.line p).parity = some .even ∧ onesOf c bit % 2 = 1 ∨ (s.line p).parity = some .odd ∧ onesOf c bit % 2 = 0))) →
    count = (if e.mode = .retry then min 15 ((s.line p).retryCount + 1) else (s.line p).retryCount) →
    ended = { (s.line p).releaseCall with
      state := .guard, window := some 2, retryCount := count, lastEvent := some (.callEnded .dropped),
      destination :=
        if e.mode = .latch then .latched
        else if e.retryLimit ≠ 0 ∧ e.retryLimit ≤ count then .latched else .resting e.periodIndex } →
    (e.mode = .latch ∨ e.mode = .retry →
      (∀ d, (s.line p).holder = .dialogue d → exec i s = .next { s with
        lines := s.lines.set p ended, inputWait := without p s.inputWait, waitQueue := without p s.waitQueue,
        link := (s.link.evented p (.fault k)).evented p (.callEnded .dropped) })
      ∧ (∀ n x, (s.line p).holder = .session n → s.findSession n = some x → x.snapshot.record.holdTime ≠ 0 →
        ∃ t, exec i s = .next t
          ∧ t = { s with
              lines := s.lines.set p ended, sessions := t.sessions, inputWait := without p s.inputWait,
              waitQueue := without p s.waitQueue,
              link := ((s.link.evented p (.fault k)).reported
                (.sessionHeld n x.account p .lineFault x.snapshot.record.holdTime)).evented p (.callEnded .dropped) }
          ∧ t.findSession n = some { x with
              state := .held, boundLine := none, hold := some x.snapshot.record.holdTime,
              idle := if k = .noise ∧ x.state = .open then 0 else x.idle,
              idleWarned := if k = .noise ∧ x.state = .open then false else x.idleWarned }
          ∧ ∀ m, m ≠ n → t.findSession m = s.findSession m)
      ∧ (∀ n x, (s.line p).holder = .session n → s.findSession n = some x → x.boundLine = some p →
          x.snapshot.record.holdTime = 0 → s.waitQueue = [] ∨ s.link.limits.hostSlots < s.sessions.length →
        ∃ t b, exec i s = .next t ∧ (∀ q, t.line q = if q = p then ended else s.line q)
          ∧ t.sessions = s.sessions.eraseP (fun y => y.number == n) ∧ t.bills = s.bills ++ [b] ∧ b.session = n ∧ b.cause = .lineFault
          ∧ t.inputWait = without p s.inputWait ∧ t.waitQueue = without p s.waitQueue
          ∧ (t.tariff.band = s.tariff.band ∨ t.tariff.band + 1 = s.tariff.band →
              t.link = (({ s with link := s.link.evented p (.fault k) } : State).closeReports x .lineFault
                t.tariff.band).evented p (.callEnded .dropped))
          ∧ (s.bandSettled → t.tariff.band = s.tariff.steps.fallen s.tariff.band (s.sessions.length - 1))))
    ∧ (e.mode = .report ∨ e.mode = .ignore → ∀ (l : Line) (a : Link),
      l = { s.line p with
        space := if k = .longSpace then .longSpace else .none,
        noiseCount := if k = .noise then 0 else (s.line p).noiseCount,
        lastEvent := if e.mode = .report then some (.fault k) else (s.line p).lastEvent } →
      a = (if e.mode = .report then s.link.evented p (.fault k) else s.link) →
      (k = .longSpace ∨ (∃ d, (s.line p).holder = .dialogue d ∧ ((s.line p).substitute = false ∨ d.phase = .greeting)) →
        exec i s = .next { s with lines := s.lines.set p l, link := a })
      ∧ (k = .noise → (s.line p).substitute = true → ∀ b, (s.line p).accepts 42#7 b →
        exec i s = exec (.characterReceived p 42#7 b) { s with lines := s.lines.set p l, link := a })
      ∧ (k = .noise → (s.line p).substitute = false → ∃ t, exec i s = .next t
        ∧ t = { s with lines := s.lines.set p l, sessions := t.sessions, link := a }
        ∧ ((∀ n, (s.line p).holder ≠ .session n) → t.sessions = s.sessions)
        ∧ ∀ n x, (s.line p).holder = .session n → s.findSession n = some x → x.state = .open →
            t.findSession n = some { x with idle := 0, idleWarned := false }))

/-- Characters received without error that nothing takes (R26): BEL answers one in WAITING, on a STALLED session and while a
record waits; one in GREETING is discarded, and so is every one in DROPPING. The model's choice in it: a character is taken
where State shows a pending break (log entry 24). -/
def Obligations.CharactersNotTaken : Prop :=
  ∀ (s : State) (p : Port) (c : Code) (bit : Bool),
    ((s.line p).state = .connected → (s.line p).accepts c bit →
      (∀ d, (s.line p).holder = .dialogue d → d.phase = .greeting → exec (.characterReceived p c bit) s = .next { s with
        lines := s.lines.set p { s.line p with space := .none } })
      ∧ ((∃ d, (s.line p).holder = .dialogue d ∧ d.phase = .waiting)
          ∨ (∃ n x, (s.line p).holder = .session n ∧ s.findSession n = some x ∧ x.state = .stalled) →
        ∃ t, exec (.characterReceived p c bit) s = .next t ∧ t = { s with
          lines := s.lines.set p { s.line p with space := .none, output := (s.line p).echoed [7#7] },
          sessions := t.sessions } ∧ ∀ n, t.findSession n = s.findSession n)
      ∧ (∀ n x r, (s.line p).holder = .session n → s.findSession n = some x → x.state = .open →
          (s.line p).waitingRecord = some r →
        ∃ t, exec (.characterReceived p c bit) s = .next t ∧ t = { s with
          lines := s.lines.set p { s.line p with space := .none, output := (s.line p).echoed [7#7] },
          sessions := t.sessions } ∧ t.findSession n = some { x with idle := 0, idleWarned := false }))
    ∧ ((s.line p).state = .dropping → ∀ i, i = .characterReceived p c bit ∨ i = .heldCharacterReceived p c bit →
      exec i s = .next { s with lines := s.lines.set p { s.line p with space := .none } })

/-- A space of 200 ms is a pending break (R40). A break on an OPEN session whose partial record and queue go with it makes a
break record, which takes the place of a waiting record or goes the way of any record (R41, R47); with drain-wanted set and
characters on the queue, its discard is told as DRAINED first (R46, R47). In ENTRY a break is a kill, and in GREETING, in WAITING
and on a STALLED session it is ignored. The model's choice in it: BREAK says that a break has been received, and acts with no
pending break noted before it (log entry 6). -/
def Obligations.BreakMakesABreakRecord : Prop :=
  ∀ (s : State) (p : Port) (l : Line), l = { s.line p with space := .none } →
    ((s.line p).state = .connected ∨ (s.line p).state = .dropping → exec (.breakPending p) s = .next { s with
      lines := s.lines.set p { s.line p with space := .breakPending } })
    ∧ ((s.line p).state = .connected → (s.line p).space ≠ .longSpace →
      (∀ n x record, (s.line p).holder = .session n → s.findSession n = some x → x.state = .open →
        (s.line p).drainWanted = false ∨ (s.line p).output = [] →
        record = ⟨if (s.line p).settings.mode = .line then .complete else .short, true, [], []⟩ →
        ∃ t, exec (.breakReceived p) s = .next t
          ∧ t = { s with lines := s.lines.set p (t.line p), sessions := t.sessions, inputWait := t.inputWait, link := t.link }
          ∧ t.findSession n = some { x with idle := 0, idleWarned := false }
          ∧ t.line p = { l with
              partialRecord := {}, output := [], unreported := [], fill := 0,
              settings := l.pendingSettings.getD l.settings, pendingSettings := none,
              waitingRecord := if l.waitingRecord = none ∧ s.hasRoom then none else some record }
          ∧ (l.waitingRecord = none → s.hasRoom →
              t.inputWait = s.inputWait ∧ t.link = { s.link with reports := s.link.reports ++ [.input n p record] })
          ∧ (l.waitingRecord = none → ¬ s.hasRoom → t.inputWait = s.inputWait ++ [p] ∧ t.link = s.link)
          ∧ (l.waitingRecord ≠ none → t.inputWait = s.inputWait ∧ t.link = s.link))
      ∧ (∀ n x record (room : Bool), (s.line p).holder = .session n → s.findSession n = some x → x.state = .open →
        (s.line p).drainWanted = true → (s.line p).output ≠ [] →
        record = ⟨if (s.line p).settings.mode = .line then .complete else .short, true, [], []⟩ →
        room = decide (s.inputWait = [] ∧ s.link.reports.length + 17 ≤ 64) →
        ∃ t, exec (.breakReceived p) s = .next t
          ∧ t = { s with
              lines := s.lines.set p { l with
                partialRecord := {}, output := [], unreported := [], fill := 0, drainWanted := false,
                settings := l.pendingSettings.getD l.settings, pendingSettings := none,
                waitingRecord := if l.waitingRecord = none ∧ room = true then none else some record },
              sessions := t.sessions,
              inputWait := if l.waitingRecord = none ∧ room = false then s.inputWait ++ [p] else s.inputWait,
              link := if l.waitingRecord = none ∧ room = true then
                  { s.link with reports := s.link.reports ++ [.drained n p, .input n p record] }
                else s.link.reported (.drained n p) }
          ∧ t.findSession n = some { x with idle := 0, idleWarned := false })
      ∧ (∀ d, (s.line p).holder = .dialogue d →
          (d.phase = .entry → exec (.breakReceived p) s = .next { s with lines := s.lines.set p { l with
            partialRecord := {}, output := l.echoed [94#7, 88#7, 13#7, 10#7] } })
          ∧ (d.phase = .greeting ∨ d.phase = .waiting →
              exec (.breakReceived p) s = .next { s with lines := s.lines.set p l }))
      ∧ (∀ n x, (s.line p).holder = .session n → s.findSession n = some x → x.state = .stalled →
          exec (.breakReceived p) s = .next { s with lines := s.lines.set p l }))

/-! ## Sending -/

/-- The sending of a character in CONNECTED and DROPPING (R43): the head leaves the queue, its start bit, its seven data bits
low-order first, a parity bit that agrees with the line's parity and the stop bits of the speed go out, and a CR is followed
by fill. A fill NUL that is due goes out in the same way before the next queued character, and with the queue and the fill all
sent the output rests at mark. DRAINED is due when a character's leaving brings the queue to 64 or less with drain-wanted set
(R46). The sending of the PROMPT ends the GREETING (R44, R89): the dialogue enters ENTRY and nothing else of it changes; the
sending of another message ends no phase. The model's choices in it, in the second clause: CHARACTER_SENT is the time of one
fill NUL too, each sending one of those that are due, and with nothing to send it leaves transmit empty, which is rest at mark
(log entries 6 and 15). -/
def Obligations.CharacterSentLeavesTheQueue : Prop :=
  (∀ (s : State) (p : Port) (c : OutChar) (rest : List OutChar) (sp : Speed) (par : Parity),
    (s.line p).state = .connected ∨ (s.line p).state = .dropping → (s.line p).output = c :: rest → (s.line p).fill = 0 →
    (s.line p).speed = some sp → (s.line p).parity = some par →
    ∃ t bit, exec (.characterSent p) s = .next t
      ∧ t = { s with lines := s.lines.set p (t.line p), link := t.link }
      ∧ (t.line p).output = rest
      ∧ (t.line p).transmit = [false] ++ (List.range 7).map (fun i => c.code.getLsbD i) ++ [bit]
          ++ (if sp = .b110 then [true, true] else [true])
      ∧ (par = .even → onesOf c.code bit % 2 = 0) ∧ (par = .odd → onesOf c.code bit % 2 = 1)
      ∧ (t.line p).fill = (if c.code = 13#7 then
          match sp with
          | .b110 => 0 | .b150 => 0 | .b300 => 1 | .b600 => 2 | .b1200 => 4
          else 0)
      ∧ (∀ n, (s.line p).holder = .session n → (s.line p).drainWanted = true → rest.length ≤ 64 →
          t.link = s.link.reported (.drained n p) ∧ (t.line p).drainWanted = false)
      ∧ ((s.line p).drainWanted = false ∨ 64 < rest.length →
          t.link = s.link ∧ (t.line p).drainWanted = (s.line p).drainWanted))
  ∧ (∀ (s : State) (p : Port), (s.line p).state = .connected ∨ (s.line p).state = .dropping →
    (∀ k sp par, (s.line p).fill = k + 1 → (s.line p).speed = some sp → (s.line p).parity = some par →
      exec (.characterSent p) s = .next { s with lines := s.lines.set p { s.line p with
        fill := k,
        transmit := List.replicate 8 false ++ [decide (par = .odd)] ++ (if sp = .b110 then [true, true] else [true]) } })
    ∧ ((s.line p).fill = 0 → (s.line p).output = [] →
      exec (.characterSent p) s = .next { s with lines := s.lines.set p { s.line p with transmit := [] } }))
  ∧ ∀ (s : State) (p : Port) (d : Dialogue) (m : Slot) (rest : List Slot),
    (s.line p).state = .connected → (s.line p).holder = .dialogue d → (s.line p).unreported = m :: rest →
    exec (.partMessageSent p m) s = .next { s with lines := s.lines.set p { s.line p with
      unreported := rest,
      holder := .dialogue (if d.phase = .greeting ∧ m = 1 then { d with phase := .entry } else d) } }

/-! ## Sign-on -/

/-- The check value of a password (R70): from 1, for each character the value times 31 and the character's code, modulo 65,521;
with the rule's two examples, `AB` and `PA/X`. -/
def Obligations.CheckValueOfAPassword : Prop :=
  checkValue [] = 1 ∧ (∀ (pw : List Code) (c : Code), checkValue (pw ++ [c]) = (checkValue pw * 31 + c.toNat) % 65521)
    ∧ (∀ pw : List Code, checkValue pw ≤ 65520) ∧ checkValue [65#7, 66#7] = 3042
    ∧ checkValue [80#7, 65#7, 47#7, 88#7] = 29240

/-- Admission (R93, R98, R113, R144): a CR after a well-formed record that passes every check makes a new OPEN session bound
to the line, with the class snapshot, the clock's time as its start and the latched rate and multiplier; the account's active
count rises, the failure count is cleared, the line's retry count becomes 0 and its dialogue ends. It is told as SESSION OPENED,
behind the LOAD BAND report of a band that it raises (R98, R126, R139), and where the balance is within the low-funds threshold
FUNDS LOW follows, on the line and to the host (R149). A settled band rises by one where the slots in use, this session's among
them, reach the threshold of the next band, and else stays (R139). The model's choice in it: a character is taken where State
shows a pending break (log entry 24). -/
def Obligations.SignOnAdmits : Prop :=
  ∀ (s : State) (p : Port) (d : Dialogue) (bit : Bool) (n cu : Nat) (pw : List Code) (a : Account),
    s.hasTyped p d n pw → (s.line p).accepts 13#7 bit → s.link.host = .up → s.findAccount n = some a →
    checkValue pw = a.check → a.lock = .open → s.openAt a.classNo cu →
    (a.balance ≠ 0 ∨ (s.classes[a.classNo]).free = true) →
    (∀ y ∈ s.sessions, y.account = n → y.state ≠ .held) → a.active < a.limit →
    s.sessions.length + s.bills.length < 128 → s.sessions.length < s.link.limits.hostSlots →
    (∀ y ∈ s.sessions, y.number ≠ s.nextNumber) →
    ((s.classes[a.classNo]).lowFunds = 0 ∨ (s.classes[a.classNo]).lowFunds < a.balance →
    ∃ t, exec (.characterReceived p 13#7 bit) s = .next t
      ∧ t = { s with
          lines := s.lines.set p { s.line p with
            space := .none, partialRecord := {}, output := (s.line p).echoed [13#7, 10#7],
            holder := .session s.nextNumber, retryCount := 0 },
          accounts := t.accounts, waitQueue := without p s.waitQueue,
          sessions := s.sessions ++ [
            { number := s.nextNumber, account := n, snapshot := ⟨a.classNo, s.classes[a.classNo]⟩, state := .open,
              boundLine := some p, firstLine := p, lastLine := p, start := s.tariff.clock,
              meter := { rate := cu,
                         multiplier := if (s.classes[a.classNo]).surcharge then
                           s.tariff.steps.multiplier t.tariff.band else 16 } }],
          nextNumber := if 65535 ≤ s.nextNumber then 1 else s.nextNumber + 1,
          tariff := { s.tariff with band := t.tariff.band },
          link := { s.link with reports := t.link.reports, lost := t.link.lost } }
      ∧ (t.tariff.band = s.tariff.band → t.link = s.link.reported (.sessionOpened s.nextNumber p n a.classNo))
      ∧ (t.tariff.band = s.tariff.band + 1 → t.link = (s.link.reported (.loadBand s.tariff.band (s.tariff.band + 1)
          (s.sessions.length + 1) (s.tariff.steps.multiplier (s.tariff.band + 1)))).reported
            (.sessionOpened s.nextNumber p n a.classNo))
      ∧ (s.bandSettled → t.tariff.band = s.tariff.steps.risen s.tariff.band (s.sessions.length + 1))
      ∧ t.findAccount n = some { a with failures := 0, active := a.active + 1 }
      ∧ ∀ m, m ≠ n → t.findAccount m = s.findAccount m)
    ∧ ((s.classes[a.classNo]).lowFunds ≠ 0 → a.balance ≤ (s.classes[a.classNo]).lowFunds →
    ∃ t y, exec (.characterReceived p 13#7 bit) s = .next t ∧ t.sessions = s.sessions ++ [y] ∧ y.number = s.nextNumber
      ∧ y.account = n ∧ y.state = .open ∧ y.boundLine = some p ∧ y.meter.rate = cu ∧ y.fundsWarned = true
      ∧ (t.line p).holder = .session s.nextNumber
      ∧ (t.line p).shown = joined (((s.line p).echoed [13#7, 10#7]).map (·.code)) s.messages[slotFundsLow]
      ∧ (t.tariff.band = s.tariff.band → t.link = (s.link.reported (.sessionOpened s.nextNumber p n a.classNo)).reported
          (.fundsLow s.nextNumber n (some p) a.balance))
      ∧ (t.tariff.band = s.tariff.band + 1 → t.link = ((s.link.reported (.loadBand s.tariff.band (s.tariff.band + 1)
          (s.sessions.length + 1) (s.tariff.steps.multiplier (s.tariff.band + 1)))).reported
            (.sessionOpened s.nextNumber p n a.classNo)).reported (.fundsLow s.nextNumber n (some p) a.balance))
      ∧ (s.bandSettled → t.tariff.band = s.tariff.steps.risen s.tariff.band (s.sessions.length + 1)))

/-- A refusal with attempt counted (R93, R95), by its cause, a malformed record of any form among them (R92), and its message: the
attempt is counted and the message queued, and below the attempts limit PROMPT follows and the phase stays ENTRY; at the limit
GOODBYE follows and the line drops. With the host DOWN the record is not looked at (R94): the dialogue ends, the line goes on hook
into GUARD with CALL ENDED, reason DROPPED, and nothing is counted. The model's choices in it: what going on hook takes from the
line's record (log entries 10 and 17). The model's choice in it too: a character is taken where State shows a pending break
(log entry 24). -/
def Obligations.SignOnRefusalCountsTheAttempt : Prop :=
  (∀ (s : State) (p : Port) (d : Dialogue) (bit : Bool) (m : Slot),
    (s.line p).state = .connected → (s.line p).holder = .dialogue d → d.phase = .entry → (s.line p).accepts 13#7 bit →
    s.link.host = .up → d.attempts < 5 →
    (s.line p).output.length + (s.messages[m]).length + (s.messages[slotPrompt]).length
      + (s.messages[slotGoodbye]).length ≤ 200 →
    (m = slotNotAccepted ∧ (s.line p).partialRecord.malformed)
      ∨ (∃ n pw, s.hasTyped p d n pw ∧
          ((m = slotNotAccepted ∧ s.findAccount n = none)
            ∨ ∃ a, s.findAccount n = some a ∧
              ((m = slotNotAccepted ∧ checkValue pw ≠ a.check)
                ∨ (m = slotSuspended ∧ checkValue pw = a.check ∧ a.lock ≠ .open)
                ∨ (checkValue pw = a.check ∧ a.lock = .open ∧
                    ((m = slotNotAtThisHour ∧ ∃ w, s.tariff.period = some w ∧ w.rates[a.classNo] = .closed)
                      ∨ (∃ cu, s.openAt a.classNo cu) ∧
                        ((m = slotNoFunds ∧ a.balance = 0 ∧ (s.classes[a.classNo]).free = false)
                          ∨ ((a.balance ≠ 0 ∨ (s.classes[a.classNo]).free = true) ∧
                              (∀ y ∈ s.sessions, y.account = n → y.state ≠ .held) ∧
                              ((m = slotLimit ∧ a.limit ≤ a.active)
                                ∨ (m = slotNotAvailable ∧ a.active < a.limit
                                    ∧ 128 ≤ s.sessions.length + s.bills.length))))))))) →
    ∃ t, exec (.characterReceived p 13#7 bit) s = .next t
      ∧ t = { s with lines := s.lines.set p (t.line p), accounts := t.accounts, waitQueue := t.waitQueue, link := t.link }
      ∧ (t.line p).partialRecord = {}
      ∧ (d.attempts + 1 < s.link.limits.attempts →
          (t.line p).state = .connected ∧ (t.line p).holder = .dialogue { d with attempts := d.attempts + 1 }
          ∧ t.waitQueue = s.waitQueue
          ∧ (t.line p).output.map (·.code) = (s.line p).output.map (·.code) ++ [13#7, 10#7] ++ messageCodes s.messages[m]
              ++ messageCodes s.messages[slotPrompt])
      ∧ (s.link.limits.attempts ≤ d.attempts + 1 →
          (t.line p).state = .dropping ∧ (t.line p).window = some 10
          ∧ (t.line p).holder = .dialogue ⟨.farewell, d.attempts + 1, .stopped, none, none⟩
          ∧ (t.line p).output.map (·.code) = (s.line p).output.map (·.code) ++ [13#7, 10#7] ++ messageCodes s.messages[m]
              ++ messageCodes s.messages[slotGoodbye]))
  ∧ ∀ (s : State) (p : Port) (d : Dialogue) (bit : Bool), (s.line p).state = .connected → (s.line p).holder = .dialogue d →
    d.phase = .entry → (s.line p).accepts 13#7 bit → s.link.host = .down →
    exec (.characterReceived p 13#7 bit) s = .next { s with
      lines := s.lines.set p { (s.line p).releaseCall with
        state := .guard, window := some 2, destination := .idle, lastEvent := some (.callEnded .dropped) },
      inputWait := without p s.inputWait, waitQueue := without p s.waitQueue,
      link := s.link.evented p (.callEnded .dropped) }

/-- A password that does not match an OPEN account is counted, and at the class failure limit the class's lock policy decides
the lock, the counts and the ACCOUNT LOCKED report (R80, R81, R82). The model's choice in it: a character is taken where State
shows a pending break (log entry 24). -/
def Obligations.WrongPasswordsLockTheAccount : Prop :=
  ∀ (s : State) (p : Port) (d : Dialogue) (bit : Bool) (n : Nat) (pw : List Code) (a : Account) (r : ClassRecord)
    (rep : Nat),
    s.hasTyped p d n pw → (s.line p).accepts 13#7 bit → s.link.host = .up → s.findAccount n = some a →
    checkValue pw ≠ a.check → a.lock = .open → a.failures < 15 → r = s.classes[a.classNo] →
    rep = min 7 (a.lockRepeats + 1) →
    ∃ t, exec (.characterReceived p 13#7 bit) s = .next t ∧ t.sessions = s.sessions
      ∧ (∀ m, m ≠ n → t.findAccount m = s.findAccount m)
      ∧ (a.failures + 1 < r.failureLimit →
          t.findAccount n = some { a with failures := a.failures + 1 } ∧ t.link = s.link)
      ∧ (r.failureLimit ≤ a.failures + 1 →
          (r.lockPolicy = .off → t.findAccount n = some { a with failures := a.failures + 1 } ∧ t.link = s.link)
          ∧ (r.lockPolicy = .report → t.findAccount n = some { a with failures := 0 }
              ∧ t.link = s.link.reported (.accountLocked n p true .open a.lockRepeats))
          ∧ (r.lockPolicy = .latch → t.findAccount n = some { a with failures := 0, lock := .lockedHeld }
              ∧ t.link = s.link.reported (.accountLocked n p false .lockedHeld a.lockRepeats))
          ∧ (r.lockPolicy = .timed → r.repeatLimit ≤ rep →
              t.findAccount n = some { a with failures := 0, lock := .lockedHeld, lockRepeats := rep }
              ∧ t.link = s.link.reported (.accountLocked n p false .lockedHeld rep))
          ∧ (r.lockPolicy = .timed → rep < r.repeatLimit → ∀ w,
              w = ([60, 300, 900, 1800, 3600, 7200, 14400] : List Nat).getD r.lockPeriod 14400 →
              t.findAccount n = some { a with failures := 0, lock := .lockedTimed w, lockRepeats := rep }
              ∧ t.link = s.link.reported (.accountLocked n p false (.lockedTimed w) rep)))

/-- A sign-on that finds HELD sessions of its account is given back the one with the least hold remaining, of those with the
same the one with the lowest number (R100): it is OPEN on this line, its hold absent, its idle count 0, its reattaches one
more and its meter untouched; no slot and no reservation is taken; RESUMED is told, on the line and to the host, and where the
balance is within the low-funds threshold and it has not been warned, FUNDS LOW follows on both (R101, R149). One that passes
every check but the last is told PLEASE WAIT and enters the wait queue at its tail, its sign-on limit paused (R97, R103); with
wait limit 0 the dialogue is in FAREWELL and the line is dropped with that message, no attempt being counted (R97). The
model's choice in it: a character is taken where State shows a pending break (log entry 24). -/
def Obligations.SignOnReattachesOrWaits : Prop :=
  ∀ (s : State) (p : Port) (d : Dialogue) (bit : Bool) (n cu : Nat) (pw : List Code) (a : Account) (line : Line) (q : List Code),
    s.hasTyped p d n pw → (s.line p).accepts 13#7 bit → s.link.host = .up → s.findAccount n = some a →
    checkValue pw = a.check → a.lock = .open → s.openAt a.classNo cu →
    (a.balance ≠ 0 ∨ (s.classes[a.classNo]).free = true) →
    line = { s.line p with space := .none, partialRecord := {} } →
    q = ((s.line p).echoed [13#7, 10#7]).map (·.code) →
    (∀ (x : Session) (h : Nat) (warns : Bool) (r : ClassRecord), s.soonest n x h → r = x.snapshot.record →
      warns = decide (r.lowFunds ≠ 0 ∧ a.balance ≤ r.lowFunds ∧ x.fundsWarned = false) →
      ∃ t, exec (.characterReceived p 13#7 bit) s = .next t
        ∧ t = { s with
            lines := s.lines.set p { line with
              output := (t.line p).output, holder := .session x.number, retryCount := 0 },
            accounts := t.accounts, sessions := t.sessions,
            link := if warns then
                (s.link.reported (.sessionResumed x.number n p)).reported (.fundsLow x.number n (some p) a.balance)
              else s.link.reported (.sessionResumed x.number n p) }
        ∧ t.findSession x.number = some { x with
            state := .open, boundLine := some p, hold := none, idle := 0, idleWarned := false,
            reattaches := min 255 (x.reattaches + 1), lastLine := p, fundsWarned := x.fundsWarned || warns }
        ∧ (∀ k, k ≠ x.number → t.findSession k = s.findSession k) ∧ t.sessions.length = s.sessions.length
        ∧ t.findAccount n = some { a with failures := 0 } ∧ (∀ k, k ≠ n → t.findAccount k = s.findAccount k)
        ∧ (t.line p).shown = if warns then joined (joined q s.messages[slotResumed]) s.messages[slotFundsLow]
                             else joined q s.messages[slotResumed])
    ∧ ((∀ y ∈ s.sessions, y.account = n → y.state ≠ .held) → a.active < a.limit →
      s.sessions.length + s.bills.length < 128 → s.link.limits.hostSlots ≤ s.sessions.length →
      (∀ k, 0 < s.link.limits.wait → d.limit = .running k →
        ∃ t, exec (.characterReceived p 13#7 bit) s = .next t
          ∧ t = { s with
              lines := s.lines.set p { line with
                output := (t.line p).output,
                holder := .dialogue ⟨.waiting, d.attempts, .paused k, some n, some (s.link.limits.wait * 60)⟩ },
              accounts := t.accounts, waitQueue := s.waitQueue ++ [p] }
          ∧ (t.line p).shown = joined q s.messages[slotPleaseWait]
          ∧ t.findAccount n = some { a with failures := 0 } ∧ ∀ k, k ≠ n → t.findAccount k = s.findAccount k)
      ∧ (s.link.limits.wait = 0 →
        ∃ t, exec (.characterReceived p 13#7 bit) s = .next t
          ∧ t = { s with
              lines := s.lines.set p { line with
                output := (t.line p).output, state := .dropping, window := some 10, noiseCount := 0, noiseWindow := none,
                holder := .dialogue ⟨.farewell, d.attempts, .stopped, none, none⟩ },
              accounts := t.accounts, waitQueue := without p s.waitQueue }
          ∧ (t.line p).shown = joined q s.messages[slotPleaseWait]
          ∧ t.findAccount n = some { a with failures := 0 } ∧ ∀ k, k ≠ n → t.findAccount k = s.findAccount k))

/-! ## The host link -/

/-- Frames that are not carried out, with no order held (R167, R168): found hunting, a LENGTH above 240 leaves KIND and LENGTH
to be examined again; a bad CHECK is answered CHECK, or held behind a reply, and the link monitor does not see it; a good
frame whose KIND names no order is answered UNKNOWN. An order whose body has not the length of 11.3 is refused BAD VALUE and
changes nothing but the reply path, the link timeout and the assembler (R168, R169). With a frame in assembly that has still
to take as many bytes as a frame that the host sends has, those bytes are its own, and the frame sent is none (R167): so is a
frame swallowed behind a discarded one whose KIND was a LEAD. -/
def Obligations.FramesRefused : Prop :=
  (∀ (s : State) (k n x : Byte) (b : List Byte), s.link.heldOrder = none → s.link.assembler = .hunting →
    (240 < n.toNat → exec (.frameLengthDiscard k n) s = .next { s with
      link := { s.link with assembler := if k = 0xC3#8 then .inFrame [0xC3#8, n] else .hunting } })
    ∧ (b.foldl (· + ·) (k + BitVec.ofNat 8 b.length) + x ≠ 0#8 →
      (s.link.replyPath = none → exec (.frameBadCheck k b x) s = .next { s with
        link := { s.link with assembler := .hunting, replyPath := some ⟨k, .check, []⟩ } })
      ∧ (s.link.replyPath ≠ none → exec (.frameBadCheck k b x) s = .next { s with
        link := { s.link with assembler := .hunting, heldOrder := some ⟨k, b, x⟩ } }))
    ∧ (s.ready → exec (.unknownKind k b) s = .next (s.replied k .unknown [])))
  ∧ (∀ (s : State) (c : Instr) (k : Byte) (b : List Byte), s.ready → frameOf c = some (k, b) →
    (∀ k' b', c ≠ .unknownKind k' b') → lengthRight k b = false →
    exec c s = .next (s.replied k .badValue []))
  ∧ (∀ (s : State) (k n x : Byte) (b got : List Byte) (kind : Byte), s.link.heldOrder = none →
    s.link.assembler = .inFrame (0xC3#8 :: kind :: n :: got) → got.length + b.length + 4 ≤ n.toNat →
    (∀ c : Instr, frameOf c = some (k, b) →
      ∃ check, b.foldl (· + ·) (k + BitVec.ofNat 8 b.length) + check = 0#8 ∧ exec c s = .next { s with
        link := { s.link with
          assembler := .inFrame (0xC3#8 :: kind :: n :: got ++ [0xC3#8, k, BitVec.ofNat 8 b.length] ++ b ++ [check]) } })
    ∧ exec (.frameBadCheck k b x) s = .next { s with
        link := { s.link with
          assembler := .inFrame (0xC3#8 :: kind :: n :: got ++ [0xC3#8, k, BitVec.ofNat 8 b.length] ++ b ++ [x]) } })

/-- A good frame that is complete behind a reply becomes the held order (R167), and with an order held the inbound side takes no
frame: it is not ready, and what the host sends then is not taken (log entry 9). When the reply's sending begins it leaves the
reply path and the held order is carried out (R167, R170): a good one exactly as its command on the state whose reply path is
free, and one with a bad CHECK is answered CHECK. -/
def Obligations.HeldOrder : Prop :=
  (∀ (s : State) (c : Instr) (k : Byte) (b : List Byte), frameOf c = some (k, b) →
    (s.link.heldOrder = none → s.link.assembler = .hunting → s.link.replyPath ≠ none →
      ∃ x, b.foldl (· + ·) (k + BitVec.ofNat 8 b.length) + x = 0#8 ∧ exec c s = .next { s with
        link := { s.link with assembler := .hunting, heldOrder := some ⟨k, b, x⟩ } })
    ∧ (s.link.heldOrder ≠ none → exec c s = .next s))
  ∧ (∀ (s : State) (r : Reply) (f : Frame), s.link.replyPath = some r → s.link.heldOrder = some f →
    s.link.assembler = .hunting →
    (f.body.foldl (· + ·) (f.kind + BitVec.ofNat 8 f.body.length) + f.check = 0#8 →
      ∀ c : Instr, c.wellFormed = true → frameOf c = some (f.kind, f.body) →
        exec .replySendStart s =
          exec c { s with link := { s.link with sending := r.frame, replyPath := none, heldOrder := none } })
    ∧ (f.body.foldl (· + ·) (f.kind + BitVec.ofNat 8 f.body.length) + f.check ≠ 0#8 →
      exec .replySendStart s = .next { s with
        link := { s.link with sending := r.frame, replyPath := some ⟨f.kind, .check, []⟩, heldOrder := none } }))

/-- The outbound side (R166, R170, R171): a reply's frame and a report's, byte for byte, a report with the KIND of R171 and the
fields of 11.5; a reply goes first, and a report takes the lost flag with it. The code numbers are those of
CodesOfTheEnumerations. The entry that a report's sending frees (R38): with 16 entries free the record of the line at the head of
the input wait list is queued under its session's number, and pending settings take effect with an empty partial record (R48);
with 15 it waits on. -/
def Obligations.OutboundFrames : Prop :=
  (∀ s : State,
    (∀ r, s.link.replyPath = some r → s.link.heldOrder = none →
      ∃ x, exec .replySendStart s = .next { s with link := { s.link with
          replyPath := none,
          sending := [0xC3#8, 0x80#8, BitVec.ofNat 8 (r.data.length + 2), r.kind, BitVec.ofNat 8 r.code.number] ++ r.data
            ++ [x] } }
        ∧ r.data.foldl (· + ·) (0x80#8 + BitVec.ofNat 8 (r.data.length + 2) + r.kind + BitVec.ofNat 8 r.code.number) + x
            = 0#8)
    ∧ (∀ r rest body, s.link.replyPath = none → s.link.reports = r :: rest → s.inputWait = [] →
      body = laid ((1, flagNumber s.link.lost) :: r.layout) →
      ∃ x, exec .reportSendStart s = .next { s with link := { s.link with
          reports := rest, lost := false,
          sending := [0xC3#8, BitVec.ofNat 8 r.kindNumber, BitVec.ofNat 8 body.length] ++ body ++ [x] } }
        ∧ body.foldl (· + ·) (BitVec.ofNat 8 r.kindNumber + BitVec.ofNat 8 body.length) + x = 0#8)
    ∧ (s.link.replyPath ≠ none → exec .reportSendStart s = .next s)
    ∧ (s.link.replyPath = none → exec .replySendStart s = .next s))
  ∧ (∀ (s : State) (r : Report) (rest : List Report) (p : Port) (more : List Port) (w : InputRecord) (n : Nat),
    s.link.replyPath = none → s.link.reports = r :: rest → s.inputWait = p :: more →
    (s.line p).waitingRecord = some w → (s.line p).holder = .session n →
    ∃ t, exec .reportSendStart s = .next t
      ∧ (∃ x, t.link.sending = [0xC3#8, BitVec.ofNat 8 r.kindNumber, BitVec.ofNat 8 (1 + (laid r.layout).length),
            if s.link.lost then 1#8 else 0#8] ++ laid r.layout ++ [x])
      ∧ (rest.length = 48 → t = { s with
          lines := s.lines.set p { s.line p with
            waitingRecord := none,
            settings := if (s.line p).partialRecord = {} then (s.line p).pendingSettings.getD (s.line p).settings
                        else (s.line p).settings,
            pendingSettings := if (s.line p).partialRecord = {} then none else (s.line p).pendingSettings },
          inputWait := more,
          link := { s.link with reports := rest ++ [.input n p w], lost := false, sending := t.link.sending } })
      ∧ (48 < rest.length → t = { s with
          link := { s.link with reports := rest, lost := false, sending := t.link.sending } }))

/-- A good frame that is carried out while the host is DOWN restores it first (R177, R119): every STALLED session is OPEN, the
host-down limit stops, the link timeout runs if it is set, and LINK RESTORED is queued; its order then finds the host UP. -/
def Obligations.GoodFrameRestoresUp : Prop :=
  ∀ (s : State) (c : Instr) (k : Byte) (b : List Byte), frameOf c = some (k, b) → s.link.heldOrder = none →
    s.link.assembler = .hunting → s.link.replyPath = none → s.link.host = .down →
    ∃ t, exec c s = exec c t
      ∧ t = { s with
          lines := t.lines,
          sessions := s.sessions.map (fun x => if x.state = .stalled then { x with state := .open } else x),
          link := ({ s.link with host := .up, downRemaining := none, assembler := .hunting,
                                 timeoutRunning := s.link.limits.linkTimeout != 0 }).reported
                    (.linkRestored s.link.secondsDown s.link.downExpired) }
      ∧ (∀ p, t.line p = { s.line p with output := (t.line p).output })
      ∧ ∀ x p, s.sessions.filter (fun y => y.state == .stalled) = [x] → x.boundLine = some p →
          (t.line p).output.map (·.code) = (s.line p).output.map (·.code) ++
            (if (s.line p).output.length + ((s.messages[slotResumed]).length + 2) ≤ 256 then
              messageCodes s.messages[slotResumed] else [])

/-- RESTART (R22, R127, R179): no report, no waiting input, no waiting line and no session is left; each session has one bill
record more, of cause RESTART; off-hook lines go on hook into GUARD, a GUARD line keeps no destination but LATCHED, RESTING
lines are IDLE, the other states stay, and every retry count is 0. Every account record keeps its number, class, check value,
limit, lock state, failures and repeats; its active count falls by one for each session of its own, and only the charge of their
closes moves its balance and its charged total (R68, R84). The falling counts leave the band at 0 but where the hysteresis
holds it higher (R139). The rest of the part is kept. The model's choices in it: what
going on hook takes from the line's record (log entries 10 and 17). -/
def Obligations.RestartClearsThePart : Prop :=
  ∀ s : State, s.ready → ∃ t bs, exec (.restart []) s = .next t
    ∧ t = { s with
        lines := t.lines, accounts := t.accounts, waitQueue := [], inputWait := [], sessions := [], bills := s.bills ++ bs,
        tariff := { s.tariff with band := t.tariff.band }, draws := t.draws,
        link := { s.link with
          assembler := .hunting, reports := [], lost := false, timeoutRunning := s.link.limits.linkTimeout != 0,
          downRemaining := none, secondsDown := 0, downExpired := false, replyPath := some ⟨0x02#8, .done, []⟩ } }
    ∧ bs.length = s.sessions.length ∧ (∀ b ∈ bs, b.cause = .restart)
    ∧ (s.bandSettled → t.tariff.band = s.tariff.steps.emptied s.tariff.band)
    ∧ t.accounts.map (fun a => { a with balance := 0, active := 0, chargedTotal := 0 })
        = s.accounts.map (fun a => { a with balance := 0, active := 0, chargedTotal := 0 })
    ∧ (∀ m a, s.findAccount m = some a → ∃ a', t.findAccount m = some a'
        ∧ a' = { a with balance := a'.balance, chargedTotal := a'.chargedTotal,
                        active := a.active - (s.sessions.filter (fun x => x.account == m)).length }
        ∧ a'.balance ≤ a.balance)
    ∧ (∀ m, (∀ x ∈ s.sessions, x.account ≠ m) → t.findAccount m = s.findAccount m)
    ∧ (∀ p, (s.line p).state.offHook = true → t.line p = { (s.line p).releaseCall with
        state := .guard, window := some 2, destination := .idle, retryCount := 0 })
    ∧ (∀ p, (s.line p).state = .guard → (t.line p).state = .guard ∧ (t.line p).window = (s.line p).window
        ∧ (t.line p).destination = (if (s.line p).destination = .latched then .latched else .idle)
        ∧ (t.line p).retryCount = 0)
    ∧ (∀ p, (s.line p).state = .resting → (t.line p).state = .idle ∧ (t.line p).window = none
        ∧ (t.line p).ringCount = 0 ∧ (t.line p).retryCount = 0)
    ∧ (∀ p, (s.line p).state = .idle ∨ (s.line p).state = .ringing ∨ (s.line p).state = .outOfService
          ∨ (s.line p).state = .latched →
        (t.line p).state = (s.line p).state ∧ (t.line p).ringCount = (s.line p).ringCount ∧ (t.line p).retryCount = 0)

/-! ## The part's own settings -/

/-- SET CLOCK (R130, R137, R138): a time out of range is refused; otherwise the clock takes it and is valid, and a pending AT
commit that it has passed or reached becomes NEXT MINUTE. With the active table present, the used entry of the day with the
latest start at or below the minute gives the current rates, and a class whose rate goes from open to CLOSED starts the
closing countdown of its OPEN and STALLED sessions and tells them CLOSING (R153), one that reopens ends it (R154); rates that were
absent give no signal (R138). -/
def Obligations.SetClockTakesTheTime : Prop :=
  ∀ (s : State) (d m1 m0 x : Byte) (t0 : Time), s.ready → t0 = ⟨d.toNat, beNat [m1, m0], x.toNat⟩ →
    (6 < t0.day ∨ 1439 < t0.minute ∨ 59 < t0.second → exec (.setClock [d, m1, m0, x]) s = .next (s.replied 0x03#8 .badValue []))
    ∧ (t0.day ≤ 6 → t0.minute ≤ 1439 → t0.second ≤ 59 → ∀ commit : Commit,
      (∀ target wrap, s.tariff.commit = .at target wrap →
        commit = if wrap = false ∧ target ≤ t0.day * 1440 + t0.minute then .nextMinute else .at target wrap) →
      ((∀ target wrap, s.tariff.commit ≠ .at target wrap) → commit = s.tariff.commit) →
      (s.tariff.activePresent = false → exec (.setClock [d, m1, m0, x]) s = .next
        (({ s with tariff := { s.tariff with clock := t0, clockValid := true, commit := commit } } : State).replied 0x03#8 .done []))
      ∧ (s.tariff.activePresent = true → ∀ (i : Fin 16) (e : TariffEntry), s.tariff.active[i] = some e →
        e.days.getLsbD t0.day = true → e.start ≤ t0.minute →
        (∀ (j : Fin 16) (f : TariffEntry), j ≠ i → s.tariff.active[j] = some f → f.days.getLsbD t0.day = true →
          f.start ≤ t0.minute → f.start < e.start) →
        ∃ t, exec (.setClock [d, m1, m0, x]) s = .next t
          ∧ t = (({ s with lines := t.lines, sessions := t.sessions, tariff := { s.tariff with
              clock := t0, clockValid := true, commit := commit, period := some ⟨i, e.rates⟩ } } : State).replied 0x03#8 .done [])
          ∧ (∀ p, t.line p = { s.line p with output := (t.line p).output })
          ∧ (s.tariff.period = none → t.sessions = s.sessions ∧ t.lines = s.lines)
          ∧ ∀ w, s.tariff.period = some w →
            t.sessions = s.sessions.map (fun y => { y with countdown := y.signalled w ⟨i, e.rates⟩ y.countdown })
            ∧ ∀ p,
              ((∀ y ∈ s.sessions, y.boundLine = some p → y.told w ⟨i, e.rates⟩ = false) → t.line p = s.line p)
              ∧ ∀ x, s.sessions.filter (fun y => y.boundLine == some p && y.told w ⟨i, e.rates⟩) = [x] →
                  (t.line p).shown = joined (s.line p).shown s.messages[slotClosing]))

/-- SET LIMITS (R173, R175): each of the ten fields is brought into its range and all are stored, the link timeout takes its
new value at once, and the reply carries the fields as stored, CLAMPED if any was replaced. With no line waiting nothing
else happens, nor where the order does not raise the host slot limit, or does not raise it above slots in use: the lines go on
waiting (R105). An order that raises it above slots in use evaluates the wait queue (R105): a line at its head is
judged by the checks of R106, and is dropped with the message of the first that fails, or admitted (R98). With lines behind the
head, which keep their order (R102), a head that fails is dropped and the order goes on as on the queue of the rest; one that
passes is admitted and the order goes on as on the queue of the rest with that session in the table, and where it took the one
slot the rest go on waiting. The queue holds no line twice (R102). -/
def Obligations.SetLimitsAreClamped : Prop :=
  (∀ (s : State) (a b c1 c0 d e f g h i j : Byte) (x : Limits), s.ready →
    s.waitQueue = [] ∨ x.hostSlots ≤ s.link.limits.hostSlots ∨ x.hostSlots ≤ s.sessions.length →
    x = ⟨max 5 (min 60 a.toNat), max 10 (min 60 b.toNat), max 30 (min 300 (beNat [c1, c0])), max 1 (min 5 d.toNat),
      min 30 e.toNat, max 1 (min 32 f.toNat), min 60 g.toNat, min 60 h.toNat, max 5 (min 60 i.toNat), min 4 j.toNat⟩ →
    exec (.setLimits [a, b, c1, c0, d, e, f, g, h, i, j]) s = .next (({ s with link := { s.link with limits := x } } : State).replied
      0x04#8 (if x = (⟨a.toNat, b.toNat, beNat [c1, c0], d.toNat, e.toNat, f.toNat, g.toNat, h.toNat, i.toNat, j.toNat⟩ : Limits)
        then .done else .clamped)
      [BitVec.ofNat 8 x.answerWindow, BitVec.ofNat 8 x.speedWindow, BitVec.ofNat 8 (x.signOn / 256),
        BitVec.ofNat 8 x.signOn, BitVec.ofNat 8 x.attempts, BitVec.ofNat 8 x.wait, BitVec.ofNat 8 x.hostSlots,
        BitVec.ofNat 8 x.linkTimeout, BitVec.ofNat 8 x.hostDown, BitVec.ofNat 8 x.noiseWindow, BitVec.ofNat 8 x.deglitch]))
  ∧ (∀ (s : State) (a b c1 c0 d e f g h i j : Byte) (H : Nat) (p : Port) (n : Nat) (talk : Dialogue), s.ready →
    s.waitQueue = [p] → s.waitsFor p n → (s.line p).holder = .dialogue talk → H = max 1 (min 32 f.toNat) →
    s.link.limits.hostSlots < H → s.sessions.length < H →
    (∀ m, s.headFails n m →
      ∃ t, exec (.setLimits [a, b, c1, c0, d, e, f, g, h, i, j]) s = .next t
        ∧ t = { s with lines := s.lines.set p (t.line p), waitQueue := [], link := t.link }
        ∧ t.link.limits.hostSlots = H ∧ t.link.reports = s.link.reports
        ∧ (t.line p).state = .dropping ∧ (t.line p).window = some 10
        ∧ (t.line p).holder = .dialogue ⟨.farewell, talk.attempts, .stopped, none, none⟩
        ∧ (t.line p).shown = joined (s.line p).shown s.messages[m])
    ∧ (∀ acct, s.headPasses n acct →
      ∃ t y, exec (.setLimits [a, b, c1, c0, d, e, f, g, h, i, j]) s = .next t ∧ t.sessions = s.sessions ++ [y]
        ∧ y.account = n ∧ y.state = .open ∧ y.boundLine = some p ∧ y.start = s.tariff.clock
        ∧ y.snapshot = ⟨acct.classNo, s.classes[acct.classNo]⟩ ∧ y.meter.charged = 0
        ∧ (∀ z ∈ s.sessions, z.number ≠ y.number) ∧ t.waitQueue = [] ∧ t.link.limits.hostSlots = H
        ∧ (t.line p).state = .connected ∧ (t.line p).holder = .session y.number ∧ (t.line p).retryCount = 0
        ∧ t.findAccount n = some { acct with active := acct.active + 1 }
        ∧ ∀ q, q ≠ p → t.line q = s.line q))
  ∧ (∀ (s : State) (a b c1 c0 d e f g h i j : Byte) (c : Instr) (H : Nat) (p : Port) (rest : List Port) (n : Nat)
      (talk : Dialogue), s.ready → s.waitQueue = p :: rest → s.waitQueue.Nodup → s.waitsFor p n →
    (s.line p).holder = .dialogue talk → c = .setLimits [a, b, c1, c0, d, e, f, g, h, i, j] → H = max 1 (min 32 f.toNat) →
    s.link.limits.hostSlots < H → s.sessions.length < H →
    (∀ m, s.headFails n m →
      ∃ l, s.dropsHead p talk m l ∧ exec c s = exec c { s with lines := s.lines.set p l, waitQueue := rest })
    ∧ (∀ acct, s.headPasses n acct →
      ∃ t y, s.admits t p acct y ∧ t.waitQueue = rest ∧ exec c s = exec c t
        ∧ (s.sessions.length + 1 = H → ∃ u, exec c s = .next u ∧ u.waitQueue = rest ∧ u.sessions = s.sessions ++ [y]
            ∧ u.lines = t.lines ∧ u.accounts = t.accounts ∧ u.tariff = t.tariff ∧ u.link.reports = t.link.reports)))

/-- SET REPORTS and SET MESSAGE (R172, R174): the five enables are replaced, or the text of one slot; a value that is none of
theirs is refused BAD VALUE. -/
def Obligations.SetReportsAndSetMessage : Prop :=
  ∀ s : State, s.ready →
    (∀ a b c d e : Bool,
      exec (.setReports ([a, b, c, d, e].map (fun x => if x then (1#8 : Byte) else 0#8))) s = .next
        (({ s with link := { s.link with enables := ⟨a, b, c, d, e⟩ } } : State).replied 0x05#8 .done
          ([a, b, c, d, e].map (fun x => if x then 1#8 else 0#8))))
    ∧ (∀ body : List Byte, body.length = 5 → (∃ x ∈ body, 1 < x.toNat) →
      exec (.setReports body) s = .next (s.replied 0x05#8 .badValue []))
    ∧ ∀ (b : Byte) (text : List Byte), text.length ≤ 240 →
      (∀ h : b.toNat < 14, text.length ≤ 64 → (∀ x ∈ text, x.toNat ≤ 127) →
        exec (.setMessage (b :: BitVec.ofNat 8 text.length :: text)) s = .next
          (({ s with messages := s.messages.set b.toNat (text.map (fun x => BitVec.ofNat 7 x.toNat)) } : State).replied 0x06#8 .done
            []))
      ∧ (13 < b.toNat ∨ 64 < text.length ∨ (∃ x ∈ text, 127 < x.toNat) →
        exec (.setMessage (b :: BitVec.ofNat 8 text.length :: text)) s = .next (s.replied 0x06#8 .badValue []))

/-- SET FAULT POLICY (R56): a listed kind and mode replace the whole entry of that kind, the retry period at most 7, the retry
limit at most 15 and the noise limit of NOISE within 1 to 63; the reply carries the entry as stored. -/
def Obligations.SetFaultPolicyReplacesTheEntry : Prop :=
  ∀ (s : State) (k m i r n : Byte), s.ready →
    (∀ (kind : FaultKind) (mode : PolicyMode) (e : PolicyEntry), kind.code = k.toNat → mode.code = m.toNat →
      e = ⟨mode, min 7 i.toNat, min 15 r.toNat, if kind = FaultKind.noise then max 1 (min 63 n.toNat) else 0⟩ →
      exec (.setFaultPolicy [k, m, i, r, n]) s = .next (({ s with policies :=
          match kind with
          | .noCarrier => { s.policies with noCarrier := e }
          | .noSpeed => { s.policies with noSpeed := e }
          | .noise => { s.policies with noise := e }
          | .longSpace => { s.policies with longSpace := e }
          | .ringStuck => { s.policies with ringStuck := e } } : State).replied 0x07#8
        (if 7 < i.toNat ∨ 15 < r.toNat ∨ (kind = FaultKind.noise ∧ (n.toNat = 0 ∨ 63 < n.toNat)) then .clamped else .done)
        [k, m, BitVec.ofNat 8 e.periodIndex, BitVec.ofNat 8 e.retryLimit, BitVec.ofNat 8 e.noiseLimit]))
    ∧ (4 < k.toNat ∨ 3 < m.toNat → exec (.setFaultPolicy [k, m, i, r, n]) s = .next (s.replied 0x07#8 .badValue []))

/-- SET CLASS (R86): a listed class and lock policy replace the whole class record, each quantity brought into its range, the
minimum at most 255 and at most a non-zero cap; the reply code says whether any was replaced, and the reply carries the record as
stored, in the order's layout (11.4). -/
def Obligations.SetClassReplacesTheRecord : Prop :=
  ∀ (s : State) (c fr su mi1 mi0 cp1 cp0 gr1 gr0 lo1 lo0 idl fl po pe re ho1 ho0 : Byte) (body : List Byte), s.ready →
    body = [c, fr, su, mi1, mi0, cp1, cp0, gr1, gr0, lo1, lo0, idl, fl, po, pe, re, ho1, ho0] →
    (∀ (h : c.toNat < 4) (policy : LockPolicy) (cap minimum : Nat), policy.code = po.toNat →
      cap = beNat [cp1, cp0] → minimum = min 255 (beNat [mi1, mi0]) → ∀ r : ClassRecord,
      r = { free := decide (fr ≠ 0#8), surcharge := decide (su ≠ 0#8),
            minCharge := if cap = 0 then minimum else min cap minimum,
            cap := cap, grace := min 600 (beNat [gr1, gr0]), lowFunds := beNat [lo1, lo0], idleLimit := min 120 idl.toNat,
            failureLimit := max 1 (min 15 fl.toNat), lockPolicy := policy, lockPeriod := min 6 pe.toNat,
            repeatLimit := max 1 (min 7 re.toNat), holdTime := min 900 (beNat [ho1, ho0]) } →
      exec (.setClass body) s = .next (({ s with classes := s.classes.set c.toNat r } : State).replied 0x08#8
        (if 1 < fr.toNat ∨ 1 < su.toNat ∨ 255 < beNat [mi1, mi0] ∨ (cap ≠ 0 ∧ cap < beNat [mi1, mi0])
            ∨ 600 < beNat [gr1, gr0] ∨ 120 < idl.toNat ∨ fl.toNat = 0 ∨ 15 < fl.toNat ∨ 6 < pe.toNat ∨ re.toNat = 0
            ∨ 7 < re.toNat ∨ 900 < beNat [ho1, ho0] then .clamped else .done) (laid (r.layout ⟨c.toNat, h⟩))))
    ∧ (3 < c.toNat ∨ 3 < po.toNat → exec (.setClass body) s = .next (s.replied 0x08#8 .badValue []))

/-- SET LOAD STEPS (R140): thresholds of 1 to 32 that strictly increase are stored with the hysteresis at most 3 and the
multipliers within 16 to 64, and the band is set afresh from the slots in use, with one LOAD BAND report if it has changed. -/
def Obligations.SetLoadStepsSetsTheBand : Prop :=
  ∀ (s : State) (a b c h m0 m1 m2 m3 : Byte) (x : LoadSteps) (band : Nat), s.ready →
    x = ⟨a.toNat, b.toNat, c.toNat, min 3 h.toNat, max 16 (min 64 m0.toNat), max 16 (min 64 m1.toNat),
      max 16 (min 64 m2.toNat), max 16 (min 64 m3.toNat)⟩ →
    band = (if c.toNat ≤ s.sessions.length then 3 else if b.toNat ≤ s.sessions.length then 2
            else if a.toNat ≤ s.sessions.length then 1 else 0) →
    (1 ≤ a.toNat → a.toNat < b.toNat → b.toNat < c.toNat → c.toNat ≤ 32 →
      exec (.setLoadSteps [a, b, c, h, m0, m1, m2, m3]) s = .next (({ s with
          tariff := { s.tariff with steps := x, band := band },
          link := if band = s.tariff.band then s.link else s.link.reported
            (.loadBand s.tariff.band band s.sessions.length
              (if band = 0 then x.m0 else if band = 1 then x.m1 else if band = 2 then x.m2 else x.m3)) } : State).replied 0x09#8
        (if x = (⟨a.toNat, b.toNat, c.toNat, h.toNat, m0.toNat, m1.toNat, m2.toNat, m3.toNat⟩ : LoadSteps) then .done else .clamped)
        [a, b, c, BitVec.ofNat 8 x.h, BitVec.ofNat 8 x.m0, BitVec.ofNat 8 x.m1, BitVec.ofNat 8 x.m2, BitVec.ofNat 8 x.m3,
          BitVec.ofNat 8 band]))
    ∧ (a.toNat = 0 ∨ b.toNat ≤ a.toNat ∨ c.toNat ≤ b.toNat ∨ 32 < c.toNat →
      exec (.setLoadSteps [a, b, c, h, m0, m1, m2, m3]) s = .next (s.replied 0x09#8 .badValue []))

/-! ## Accounts -/

/-- LOAD ACCOUNT (R71 to R73): a number, check value or class that it cannot carry is refused; a new number is inserted in
ascending order if fewer than 2,048 records are there, and else refused FULL; a record in the table has its loaded fields
replaced, while it is in use only under its own class and with a limit no lower than its active count, a raise of its balance
being handed to its sessions as R75 says. The balance is brought down to 16,777,215 and the limit into 1 to 4. -/
def Obligations.LoadAccountInsertsOrReplaces : Prop :=
  ∀ (s : State) (a2 a1 a0 c k1 k0 b3 b2 b1 b0 l : Byte) (body : List Byte) (n balance limit : Nat) (code : ReplyCode),
    s.ready → body = [a2, a1, a0, c, k1, k0, b3, b2, b1, b0, l] → n = beNat [a2, a1, a0] →
    balance = min 16777215 (beNat [b3, b2, b1, b0]) → limit = max 1 (min 4 l.toNat) →
    code = (if 16777215 < beNat [b3, b2, b1, b0] ∨ l.toNat = 0 ∨ 4 < l.toNat then .clamped else .done) →
    (n = 0 ∨ 999999 < n ∨ 65520 < beNat [k1, k0] ∨ 3 < c.toNat →
      exec (.loadAccount body) s = .next (s.replied 0x10#8 .badValue []))
    ∧ ∀ h : c.toNat < 4, 1 ≤ n → n ≤ 999999 → beNat [k1, k0] ≤ 65520 →
      (s.findAccount n = none → 2048 ≤ s.accounts.length →
        exec (.loadAccount body) s = .next (s.replied 0x10#8 .full []))
      ∧ (s.findAccount n = none → s.accounts.length < 2048 → ∀ low high : List Account,
        s.accounts = low ++ high → (∀ a ∈ low, a.number < n) → (∀ a ∈ high, n < a.number) →
        exec (.loadAccount body) s = .next (({ s with
          accounts := low ++ [⟨n, ⟨c.toNat, h⟩, beNat [k1, k0], balance, limit, 0, 0, .open, 0, 0⟩] ++ high } : State).replied
            0x10#8 code [0#8, BitVec.ofNat 8 ((s.accounts.length + 1) / 256), BitVec.ofNat 8 (s.accounts.length + 1)]))
      ∧ (∀ a, s.findAccount n = some a → a.active = 0 → (∀ x ∈ s.sessions, x.account ≠ n) →
        ∃ t, exec (.loadAccount body) s = .next t
          ∧ t = (({ s with accounts := t.accounts } : State).replied
            0x10#8 code [1#8, BitVec.ofNat 8 (s.accounts.length / 256), BitVec.ofNat 8 s.accounts.length])
          ∧ t.findAccount n = some { a with classNo := ⟨c.toNat, h⟩, check := beNat [k1, k0], balance := balance, limit := limit }
          ∧ ∀ m, m ≠ n → t.findAccount m = s.findAccount m)
      ∧ (∀ a, s.findAccount n = some a → 0 < a.active → c.toNat = a.classNo.val → a.active ≤ limit →
        ∃ t, exec (.loadAccount body) s = .next t
          ∧ t = (({ s with accounts := t.accounts, sessions := t.sessions } : State).replied
            0x10#8 code [1#8, BitVec.ofNat 8 (s.accounts.length / 256), BitVec.ofNat 8 s.accounts.length])
          ∧ t.findAccount n = some { a with check := beNat [k1, k0], balance := balance, limit := limit }
          ∧ (∀ m, m ≠ n → t.findAccount m = s.findAccount m)
          ∧ t.sessions = s.sessions.map (fun x =>
              if x.account = n ∧ a.balance < balance then
                { x with grace := if a.balance = 0 then none else x.grace,
                         fundsWarned := if x.snapshot.record.lowFunds < balance then false else x.fundsWarned }
              else x))
      ∧ (∀ a, s.findAccount n = some a → 0 < a.active → (c.toNat ≠ a.classNo.val ∨ limit < a.active) →
        exec (.loadAccount body) s = .next (s.replied 0x10#8 .inUse []))

/-- CREDIT ACCOUNT (R74, R75): the amount is added and the balance stops at 0 and at 16,777,215; a raise clears funds warned
where the balance is above a session's threshold, and a raise from 0 cancels its grace. -/
def Obligations.CreditAccountChangesTheBalance : Prop :=
  ∀ (s : State) (a2 a1 a0 m3 m2 m1 m0 : Byte) (body : List Byte) (n : Nat) (amount : Int), s.ready →
    body = [a2, a1, a0, m3, m2, m1, m0] → n = beNat [a2, a1, a0] →
    amount = (if 128 ≤ m3.toNat then (beNat [m3, m2, m1, m0] : Int) - 4294967296 else beNat [m3, m2, m1, m0]) →
    (n = 0 ∨ 999999 < n ∨ amount < -16777215 ∨ 16777215 < amount →
      exec (.creditAccount body) s = .next (s.replied 0x11#8 .badValue []))
    ∧ (1 ≤ n → n ≤ 999999 → -16777215 ≤ amount → amount ≤ 16777215 →
      (s.findAccount n = none → exec (.creditAccount body) s = .next (s.replied 0x11#8 .notFound []))
      ∧ ∀ a, s.findAccount n = some a → ∀ after : Nat, (after : Int) = max 0 (min 16777215 (a.balance + amount)) →
        ∃ t, exec (.creditAccount body) s = .next t
          ∧ t = (({ s with accounts := t.accounts, sessions := t.sessions } : State).replied 0x11#8
              (if (after : Int) = a.balance + amount then .done else .clamped)
              [BitVec.ofNat 8 (after / 65536), BitVec.ofNat 8 (after / 256), BitVec.ofNat 8 after])
          ∧ t.findAccount n = some { a with balance := after }
          ∧ (∀ m, m ≠ n → t.findAccount m = s.findAccount m)
          ∧ t.sessions = s.sessions.map (fun x =>
              if x.account = n ∧ a.balance < after then
                { x with grace := if a.balance = 0 then none else x.grace,
                         fundsWarned := if x.snapshot.record.lowFunds < after then false else x.fundsWarned }
              else x))

/-- UNLOCK ACCOUNT (R77): in every lock state and whatever the active count, the lock is OPEN and the failure count and the lock
repeats are 0; no report is queued. A number that is not in the table is refused NOT FOUND. -/
def Obligations.UnlockAccountOpensTheAccount : Prop :=
  ∀ (s : State) (a2 a1 a0 : Byte) (n : Nat), s.ready → n = beNat [a2, a1, a0] → 1 ≤ n → n ≤ 999999 →
    (s.findAccount n = none → exec (.unlockAccount [a2, a1, a0]) s = .next (s.replied 0x13#8 .notFound []))
    ∧ ∀ a, s.findAccount n = some a → ∃ t, exec (.unlockAccount [a2, a1, a0]) s = .next t
      ∧ t = (({ s with accounts := t.accounts } : State).replied 0x13#8 .done [])
      ∧ t.findAccount n = some { a with lock := .open, failures := 0, lockRepeats := 0 }
      ∧ ∀ m, m ≠ n → t.findAccount m = s.findAccount m

/-- DROP ACCOUNT (R76) removes a record whose active count is 0. QUERY ACCOUNT (R78) returns a record and changes nothing: the
one of the number sent, or the least above it, which after 0 is the first; the reply carries the record, field for field, and the
records in the table (11.4). -/
def Obligations.DropAndQueryAccount : Prop :=
  (∀ s : State, s.ready → (∀ a ∈ s.accounts, 1 ≤ a.number) →
    (s.accounts = [] → exec (.queryAccount [1#8, 0#8, 0#8, 0#8]) s = .next (s.replied 0x14#8 .notFound []))
    ∧ (∀ a rest, s.accounts = a :: rest → exec (.queryAccount [1#8, 0#8, 0#8, 0#8]) s = .next (s.replied 0x14#8 .done
        (laid (a.layout ++ [(2, s.accounts.length)]))))
    ∧ exec (.queryAccount [0#8, 0#8, 0#8, 0#8]) s = .next (s.replied 0x14#8 .badValue []))
  ∧ ∀ (s : State) (f a2 a1 a0 : Byte) (n : Nat), s.ready → n = beNat [a2, a1, a0] → 1 ≤ n → n ≤ 999999 →
    (s.findAccount n = none → exec (.dropAccount [a2, a1, a0]) s = .next (s.replied 0x12#8 .notFound []))
    ∧ (∀ a, s.findAccount n = some a → 0 < a.active →
        exec (.dropAccount [a2, a1, a0]) s = .next (s.replied 0x12#8 .inUse []))
    ∧ (∀ a low high, s.findAccount n = some a → a.active = 0 → s.accounts = low ++ a :: high →
        (∀ x ∈ low, x.number ≠ n) →
        exec (.dropAccount [a2, a1, a0]) s = .next (({ s with accounts := low ++ high } : State).replied 0x12#8 .done
          [BitVec.ofNat 8 ((low ++ high).length / 256), BitVec.ofNat 8 (low ++ high).length]))
    ∧ (∀ found : Option Account,
        (f = 0#8 ∧ found = s.findAccount n)
          ∨ (f = 1#8 ∧ ∃ low high, s.accounts = low ++ high ∧ (∀ x ∈ low, x.number ≤ n) ∧ (∀ x ∈ high, n < x.number)
              ∧ found = high.head?) →
        (found = none → exec (.queryAccount [f, a2, a1, a0]) s = .next (s.replied 0x14#8 .notFound []))
        ∧ ∀ a, found = some a → exec (.queryAccount [f, a2, a1, a0]) s = .next (s.replied 0x14#8 .done
            (laid (a.layout ++ [(2, s.accounts.length)]))))
    ∧ (1 < f.toNat → exec (.queryAccount [f, a2, a1, a0]) s = .next (s.replied 0x14#8 .badValue []))

/-! ## Tariffs -/

/-- TARIFF CLEAR (R133): the standby table is emptied, or the order is refused BUSY while a commit is pending. TARIFF ENTRY
(R132), with a used field of 1 and a day set that 11.1 allows: while a commit is pending it is BUSY, an index above 15, a
start above 1,439 or a rate above 4,095 is refused, and otherwise the standby entry is written, a rate of 4,095 being CLOSED.
With a used field of 0 the entry is emptied, whatever the fields behind it hold. -/
def Obligations.StandbyTableIsWritten : Prop :=
  (∀ s : State, s.ready →
    (s.tariff.commit ≠ .none → exec (.tariffClear []) s = .next (s.replied 0x18#8 .busy []))
    ∧ (s.tariff.commit = .none → exec (.tariffClear []) s = .next
        (({ s with tariff := { s.tariff with standby := Vector.replicate 16 none } } : State).replied 0x18#8 .done [])))
  ∧ (∀ (s : State) (i u d s1 s0 a1 a0 b1 b0 c1 c0 e1 e0 : Byte) (body : List Byte), s.ready →
    body = [i, u, d, s1, s0, a1, a0, b1, b0, c1, c0, e1, e0] → (u = 0#8 ∨ (u = 1#8 ∧ d ≠ 0#8 ∧ d.toNat < 128)) →
    (s.tariff.commit ≠ .none → exec (.tariffEntry body) s = .next (s.replied 0x19#8 .busy []))
    ∧ (s.tariff.commit = .none →
      (15 < i.toNat ∨ (u = 1#8 ∧ (1439 < beNat [s1, s0]
          ∨ ∃ r ∈ [beNat [a1, a0], beNat [b1, b0], beNat [c1, c0], beNat [e1, e0]], 4095 < r)) →
        exec (.tariffEntry body) s = .next (s.replied 0x19#8 .badValue []))
      ∧ (∀ h : i.toNat < 16, u = 0#8 → exec (.tariffEntry body) s = .next
          (({ s with tariff := { s.tariff with standby := s.tariff.standby.set i.toNat none } } : State).replied
            0x19#8 .done []))
      ∧ (∀ h : i.toNat < 16, u = 1#8 → beNat [s1, s0] ≤ 1439 → ∀ rs : Vector Rate 4,
          (∀ k : Fin 4, ∀ v, [beNat [a1, a0], beNat [b1, b0], beNat [c1, c0], beNat [e1, e0]][k.val]? = some v →
            v ≤ 4095 ∧ rs[k] = if v = 4095 then .closed else .open v) →
          exec (.tariffEntry body) s = .next (({ s with tariff := { s.tariff with
            standby := s.tariff.standby.set i.toNat (some ⟨BitVec.ofNat 7 d.toNat, beNat [s1, s0], rs⟩) } } : State).replied
              0x19#8 .done []))))

/-- COMMIT TARIFF (R134, R135): refused while the clock is invalid, while two used standby entries share a day and a start, or
while some day has no entry at minute 0; otherwise the commit is pending, and one whose minute of the week has come or gone
awaits the week's wrap. -/
def Obligations.CommitTariffIsJudged : Prop :=
  ∀ (s : State) (o d m1 m0 : Byte) (commit : Commit), s.ready →
    (o = 0#8 ∧ commit = .nextMinute)
      ∨ (o = 1#8 ∧ d.toNat ≤ 6 ∧ beNat [m1, m0] ≤ 1439 ∧ commit = .at (d.toNat * 1440 + beNat [m1, m0])
          (decide (d.toNat * 1440 + beNat [m1, m0] ≤ s.tariff.clock.day * 1440 + s.tariff.clock.minute))) →
    (s.tariff.clockValid = false → exec (.commitTariff [o, d, m1, m0]) s = .next (s.replied 0x1A#8 .notReady []))
    ∧ (s.tariff.clockValid = true →
      (∀ (i j : Fin 16) (e f : TariffEntry) (day : Nat), i ≠ j → day < 7 → s.tariff.standby[i] = some e →
        s.tariff.standby[j] = some f → e.start = f.start → e.days.getLsbD day = true → f.days.getLsbD day = true →
        exec (.commitTariff [o, d, m1, m0]) s = .next (s.replied 0x1A#8 .duplicate []))
      ∧ ((∀ (i j : Fin 16) (e f : TariffEntry) (day : Nat), i ≠ j → s.tariff.standby[i] = some e →
            s.tariff.standby[j] = some f → e.start = f.start → ¬ (e.days.getLsbD day = true ∧ f.days.getLsbD day = true)) →
        ((∃ day < 7, ∀ (i : Fin 16) (e : TariffEntry), s.tariff.standby[i] = some e → e.start = 0 →
            e.days.getLsbD day = false) →
          exec (.commitTariff [o, d, m1, m0]) s = .next (s.replied 0x1A#8 .incomplete []))
        ∧ ((∀ day < 7, ∃ (i : Fin 16) (e : TariffEntry), s.tariff.standby[i] = some e ∧ e.start = 0 ∧
            e.days.getLsbD day = true) →
          exec (.commitTariff [o, d, m1, m0]) s = .next
            (({ s with tariff := { s.tariff with commit := commit } } : State).replied 0x1A#8 .done []))))

/-! ## Queries -/

/-- MARK, QUERY TARIFF, QUERY LINE and QUERY SESSION change nothing: the reply is all (R21, R125, R142, R178). MARK returns its
tag with the summary and the time of day, QUERY TARIFF the named table and the Tariff Unit, QUERY LINE the line record, QUERY
SESSION the session record and the number of records, each field for field in the layouts of 11.4; a session is found by its
number, or as the least above it. -/
def Obligations.QueriesOnlyReply : Prop :=
  ∀ (s : State) (f b1 b0 : Byte), s.ready →
    exec (.mark [b1, b0]) s = .next (s.replied 0x01#8 .done ([b1, b0, BitVec.ofNat 8 s.link.reports.length,
        if s.link.lost then 1#8 else 0#8, BitVec.ofNat 8 s.inputWait.length, BitVec.ofNat 8 s.sessions.length,
        BitVec.ofNat 8 s.bills.length, if s.tariff.clockValid then 1#8 else 0#8] ++ laid s.tariff.clock.layout))
    ∧ (b0 = 0#8 → exec (.queryTariff [b0]) s = .next (s.replied 0x1B#8 .done (b0 :: laid (s.tariffLayout s.tariff.active))))
    ∧ (b0 = 1#8 → exec (.queryTariff [b0]) s = .next (s.replied 0x1B#8 .done (b0 :: laid (s.tariffLayout s.tariff.standby))))
    ∧ (laid (s.tariffLayout s.tariff.active)).length = 223 ∧ (laid (s.tariffLayout s.tariff.standby)).length = 223
    ∧ (1 < b0.toNat → exec (.queryTariff [b0]) s = .next (s.replied 0x1B#8 .badValue []))
    ∧ (∀ p : Port, exec (.queryLine [BitVec.ofNat 8 p.val]) s = .next (s.replied 0x23#8 .done (laid (s.lineLayout p)))
        ∧ (laid (s.lineLayout p)).length = 44)
    ∧ (32 ≤ b0.toNat → exec (.queryLine [b0]) s = .next (s.replied 0x23#8 .badValue []))
    ∧ (∀ x : Session, (f = 0#8 ∧ x.number ≠ 0 ∧ s.findSession (beNat [b1, b0]) = some x)
          ∨ (f = 1#8 ∧ x ∈ s.sessions ∧ beNat [b1, b0] < x.number
              ∧ ∀ y ∈ s.sessions, beNat [b1, b0] < y.number → y = x ∨ x.number < y.number) →
        exec (.querySession [f, b1, b0]) s = .next (s.replied 0x2A#8 .done (laid (x.layout ++ [(1, s.sessions.length)])))
          ∧ (laid (x.layout ++ [(1, s.sessions.length)])).length = 65)
    ∧ (f = 1#8 → (∀ y ∈ s.sessions, y.number ≤ beNat [b1, b0]) →
        exec (.querySession [f, b1, b0]) s = .next (s.replied 0x2A#8 .notFound []))

/-! ## Orders on lines -/

/-- LINE SERVICE (R18). IN takes an OUT OF SERVICE line to IDLE once the clock is valid and the active table present, and is
else refused NOT READY; RESTORE takes a LATCHED or RESTING line to IDLE with retry count 0 and a RESTORED event; on a line in
another state both are answered DONE and change nothing. After OUT the line is OUT OF SERVICE with its window, ring count,
stuck hold and destination at their power-up values; an off-hook line goes on hook with CALL ENDED, reason REMOVED, its
dialogue ended, or its session closed with cause LINE REMOVED and one bill record, and a settled band falls where R139 has it.
A body that names no line or no action is refused BAD VALUE. The model's choices in it: what going on hook takes from the
line's record (log entries 10 and 17), that the detector's phase stands at ON out of service (log entry 23), and that one name
of the order carries out another action where the body names it (log entry 19). -/
def Obligations.LineServiceActions : Prop :=
  (∀ (s : State) (p : Port), s.ready →
    ((s.line p).state = .outOfService → s.tariff.clockValid = true → s.tariff.activePresent = true →
      exec (.lineServiceIn [BitVec.ofNat 8 p.val, 0#8]) s =
        .next (({ s with lines := s.lines.set p (s.line p).enterIdle } : State).replied 0x20#8 .done []))
    ∧ ((s.line p).state = .outOfService → (s.tariff.clockValid = false ∨ s.tariff.activePresent = false) →
      exec (.lineServiceIn [BitVec.ofNat 8 p.val, 0#8]) s = .next (s.replied 0x20#8 .notReady []))
    ∧ ((s.line p).state ≠ .outOfService →
      exec (.lineServiceIn [BitVec.ofNat 8 p.val, 0#8]) s = .next (s.replied 0x20#8 .done []))
    ∧ ((s.line p).state = .latched ∨ (s.line p).state = .resting →
      exec (.lineServiceRestore [BitVec.ofNat 8 p.val, 2#8]) s = .next (({ s with
        lines := s.lines.set p { (s.line p).enterIdle with retryCount := 0, lastEvent := some .restored },
        link := s.link.evented p .restored } : State).replied 0x20#8 .done []))
    ∧ ((s.line p).state ≠ .latched → (s.line p).state ≠ .resting →
      exec (.lineServiceRestore [BitVec.ofNat 8 p.val, 2#8]) s = .next (s.replied 0x20#8 .done [])))
  ∧ (∀ (s : State) (p : Port) (l : Line), s.ready →
    l = { (s.line p).releaseCall with
      state := .outOfService, ringCount := 0, phase := .on, presenceTimed := false, absenceTimed := false,
      abandonRunning := false, stuckHold := false, window := none, destination := .idle,
      lastEvent := some (.callEnded .removed) } →
    ((s.line p).state = .outOfService →
      exec (.lineServiceOut [BitVec.ofNat 8 p.val, 1#8]) s = .next (s.replied 0x20#8 .done []))
    ∧ ((s.line p).state = .idle ∨ (s.line p).state = .ringing ∨ (s.line p).state = .guard ∨ (s.line p).state = .resting
          ∨ (s.line p).state = .latched →
      exec (.lineServiceOut [BitVec.ofNat 8 p.val, 1#8]) s = .next (({ s with
        lines := s.lines.set p { s.line p with
          state := .outOfService, ringCount := 0, phase := .on, presenceTimed := false, absenceTimed := false,
          abandonRunning := false, stuckHold := false, window := none, destination := .idle },
        inputWait := without p s.inputWait, waitQueue := without p s.waitQueue } : State).replied 0x20#8 .done []))
    ∧ ((s.line p).state = .answering ∨ (s.line p).state = .searching ∨ (s.line p).state = .dropping
          ∨ ((s.line p).state = .connected ∧ ∃ d, (s.line p).holder = .dialogue d) →
      exec (.lineServiceOut [BitVec.ofNat 8 p.val, 1#8]) s = .next (({ s with
        lines := s.lines.set p l, inputWait := without p s.inputWait, waitQueue := without p s.waitQueue,
        link := s.link.evented p (.callEnded .removed) } : State).replied 0x20#8 .done []))
    ∧ (∀ n x, (s.line p).state = .connected → (s.line p).holder = .session n → s.findSession n = some x →
        x.boundLine = some p → s.waitQueue = [] ∨ s.link.limits.hostSlots < s.sessions.length →
      ∃ t b, exec (.lineServiceOut [BitVec.ofNat 8 p.val, 1#8]) s = .next t ∧ t.line p = l
        ∧ (∀ q, q ≠ p → t.line q = s.line q) ∧ t.sessions = s.sessions.eraseP (fun y => y.number == n)
        ∧ t.bills = s.bills ++ [b] ∧ b.session = n ∧ b.cause = .lineRemoved
        ∧ t.waitQueue = without p s.waitQueue
        ∧ (s.bandSettled → t.tariff.band = s.tariff.steps.fallen s.tariff.band (s.sessions.length - 1))
        ∧ t.link.replyPath = some ⟨0x20#8, .done, []⟩)
    ∧ ∀ (b a : Byte), 32 ≤ b.toNat ∨ 2 < a.toNat → ∀ c, c = .lineServiceIn [b, a] ∨ c = .lineServiceOut [b, a]
        ∨ c = .lineServiceRestore [b, a] → exec c s = .next (s.replied 0x20#8 .badValue []))

/-- SET LINE, call group (R20): on a line in OUT OF SERVICE, IDLE, RESTING or LATCHED the three settings are replaced, an
answer ring count outside 1 to 8 by the nearest bound; on a line in another state the order is refused BUSY. Input group
(R48): refused NOT FOUND on a line without a session and BAD VALUE for a separator that is none; otherwise echo takes effect
at once, and the assembly settings take effect at once with an empty partial record and no waiting record, and else are
pending. The model's choice in it: settings that take effect at once end any that were pending (log entry 11). -/
def Obligations.SetLineGroups : Prop :=
  (∀ (s : State) (p : Port) (check sub : Bool) (n : Byte) (body : List Byte), s.ready →
    body = [BitVec.ofNat 8 p.val, 0#8, if check then 1#8 else 0#8, if sub then 1#8 else 0#8, n] →
    ((s.line p).state = .outOfService ∨ (s.line p).state = .idle ∨ (s.line p).state = .resting
        ∨ (s.line p).state = .latched →
      exec (.setLineCall body) s = .next (({ s with
        lines := s.lines.set p { s.line p with
          parityCheck := check, substitute := sub, answerRingCount := max 1 (min 8 n.toNat) } } : State).replied 0x21#8
        (if n.toNat = 0 ∨ 8 < n.toNat then .clamped else .done) []))
    ∧ ((s.line p).state ≠ .outOfService → (s.line p).state ≠ .idle → (s.line p).state ≠ .resting →
        (s.line p).state ≠ .latched → exec (.setLineCall body) s = .next (s.replied 0x21#8 .busy [])))
  ∧ (∀ (s : State) (p : Port) (echo count endAt marks : Bool) (n x : Byte) (body : List Byte) (a : AssemblySettings), s.ready →
    body = [BitVec.ofNat 8 p.val, 1#8, if echo then 1#8 else 0#8, if count then 1#8 else 0#8, n,
      if endAt then 1#8 else 0#8, if marks then 1#8 else 0#8, x] →
    a = ⟨if count then .count else .line, max 1 (min 128 n.toNat), endAt, marks, BitVec.ofNat 7 x.toNat⟩ →
    ((∀ k, (s.line p).holder ≠ .session k) → exec (.setLineInput body) s = .next (s.replied 0x21#8 .notFound []))
    ∧ ∀ k, (s.line p).holder = .session k →
      (x.toNat < 33 ∨ 126 < x.toNat → exec (.setLineInput body) s = .next (s.replied 0x21#8 .badValue []))
      ∧ (33 ≤ x.toNat → x.toNat ≤ 126 → exec (.setLineInput body) s = .next (({ s with
          lines := s.lines.set p (
            if (s.line p).partialRecord = {} ∧ (s.line p).waitingRecord = none then
              { s.line p with echo := echo, settings := a, pendingSettings := none }
            else { s.line p with echo := echo, pendingSettings := some a }) } : State).replied 0x21#8
          (if n.toNat = 0 ∨ 128 < n.toNat then .clamped else .done) [])))

/-- DROP LINE (R19): a line in ANSWERING or SEARCHING, or CONNECTED with a dialogue, goes on hook into GUARD with CALL ENDED,
reason DROPPED; one with a session has it closed HOST ENDED, with GOODBYE and the drain, and a settled band falls where R139 has
it; a line in another state is refused
NOT FOUND. The model's choices in it: what going on hook takes from the line's record (log entries 10 and 17). -/
def Obligations.DropLineEndsTheCall : Prop :=
  ∀ (s : State) (p : Port), s.ready →
    ((s.line p).state = .answering ∨ (s.line p).state = .searching
        ∨ ((s.line p).state = .connected ∧ ∃ d, (s.line p).holder = .dialogue d) →
      exec (.dropLine [BitVec.ofNat 8 p.val]) s = .next (({ s with
        lines := s.lines.set p { (s.line p).releaseCall with
          state := .guard, window := some 2, destination := .idle, lastEvent := some (.callEnded .dropped) },
        inputWait := without p s.inputWait, waitQueue := without p s.waitQueue,
        link := s.link.evented p (.callEnded .dropped) } : State).replied 0x22#8 .done []))
    ∧ (∀ n x, (s.line p).state = .connected → (s.line p).holder = .session n → s.findSession n = some x →
        x.boundLine = some p → s.waitQueue = [] ∨ s.link.limits.hostSlots < s.sessions.length →
        (s.line p).output.length + ((s.messages[slotGoodbye]).length + 2) ≤ 256 →
      ∃ t b, exec (.dropLine [BitVec.ofNat 8 p.val]) s = .next t
        ∧ t.sessions = s.sessions.eraseP (fun y => y.number == n)
        ∧ t.bills = s.bills ++ [b] ∧ b.session = n ∧ b.cause = .hostEnded ∧ t.waitQueue = s.waitQueue
        ∧ (s.bandSettled → t.tariff.band = s.tariff.steps.fallen s.tariff.band (s.sessions.length - 1))
        ∧ (t.line p).state = .dropping ∧ (t.line p).window = some 10 ∧ (t.line p).holder = .none
        ∧ (t.line p).partialRecord = {} ∧ (t.line p).waitingRecord = none ∧ (t.line p).drainWanted = false
        ∧ (t.line p).output.map (·.code) = (s.line p).output.map (·.code) ++ messageCodes s.messages[slotGoodbye]
        ∧ t.link.replyPath = some ⟨0x22#8, .done, []⟩)
    ∧ ((s.line p).state ≠ .answering → (s.line p).state ≠ .searching → (s.line p).state ≠ .connected →
      exec (.dropLine [BitVec.ofNat 8 p.val]) s = .next (s.replied 0x22#8 .notFound []))

/-! ## Orders on sessions and bills -/

/-- SEND TEXT (R45, R124): a session that is none or HELD is refused, and otherwise the text joins the output queue unchanged if
its length after that is at most 192, or is refused FULL with drain-wanted set. Empty text is answered DONE and appends nothing,
however long the queue. -/
def Obligations.SendTextJoinsTheQueue : Prop :=
  ∀ (s : State) (n1 n0 : Byte) (text : List Byte) (n : Nat) (body : List Byte), s.ready → n = beNat [n1, n0] →
    text.length ≤ 237 → body = [n1, n0, BitVec.ofNat 8 text.length] ++ text →
    (n = 0 ∨ 192 < text.length ∨ (∃ x ∈ text, 127 < x.toNat) →
      exec (.sendText body) s = .next (s.replied 0x28#8 .badValue []))
    ∧ (n ≠ 0 → text.length ≤ 192 → (∀ x ∈ text, x.toNat ≤ 127) →
      (s.findSession n = none → exec (.sendText body) s = .next (s.replied 0x28#8 .notFound []))
      ∧ (∀ x, s.findSession n = some x → x.state = .held → exec (.sendText body) s = .next (s.replied 0x28#8 .held []))
      ∧ (∀ x p, s.findSession n = some x → x.state ≠ .held → x.boundLine = some p →
        ((s.line p).output.length + text.length ≤ 192 → exec (.sendText body) s = .next (({ s with
          lines := s.lines.set p { s.line p with
            output := (s.line p).output ++ text.map (fun b => ⟨BitVec.ofNat 7 b.toNat, none⟩) } } : State).replied
              0x28#8 .done []))
        ∧ (text = [] → exec (.sendText body) s = .next (s.replied 0x28#8 .done []))
        ∧ (text ≠ [] → 192 < (s.line p).output.length + text.length → exec (.sendText body) s = .next (({ s with
          lines := s.lines.set p { s.line p with drainWanted := true } } : State).replied 0x28#8 .full []))))

/-- TAKE BILL (R163): the head record is removed and returned, in its 36 bytes of 11.4, with the number left; an empty list is
answered EMPTY with 0. Nothing else of the part changes. -/
def Obligations.TakeBillRemovesTheHead : Prop :=
  ∀ s : State, s.ready →
    (s.bills = [] → exec (.takeBill []) s = .next (s.replied 0x30#8 .empty [0#8]))
    ∧ ∀ b rest, s.bills = b :: rest → b.bytes.length = 36 ∧ b.bytes = laid b.layout
      ∧ exec (.takeBill []) s = .next
          (({ s with bills := rest } : State).replied 0x30#8 .done (b.bytes ++ [BitVec.ofNat 8 rest.length]))

/-! ## What every step keeps -/

/-- The queues keep their bounds at every step: at most 64 reports (R171), at most 256 characters on an output queue (R43), an
order held only behind a reply (R167), and a band of 0 to 3, which stays settled for the slots in use under thresholds that
strictly increase (R139). -/
def Obligations.StepKeepsTheQueuesBounded : Prop :=
  ∀ s t : State, s.reportsFit → s.outputsFit → s.heldSound → s.bandFits → step s = .next t →
    t.reportsFit ∧ t.outputsFit ∧ t.heldSound ∧ t.bandFits ∧ (s.bandSettled → t.bandSettled)

/-- Session records and bill records together never exceed 128, and session records never exceed 32, at every step (R112, R160,
R173). -/
def Obligations.StepKeepsTheReservations : Prop :=
  ∀ s t : State, s.billsFit → s.slotsFit → step s = .next t → t.billsFit ∧ t.slotsFit

/-- Money is kept at every step: each balance and charged total in its range (R69, R84), each accumulator below one unit, the
charged units of each session and each bill record the sum of those debited, overrun and waived, within a cap and 65,535,
and waived for a free class alone (R143, R146, R147, R148). -/
def Obligations.StepKeepsTheMoney : Prop :=
  ∀ s t : State, s.moneyFits → s.metersSound → step s = .next t → t.moneyFits ∧ t.metersSound

/-- The host state and the sessions agree at every step: no STALLED session while UP, no OPEN session and no waiting line while
DOWN (R107, R118, R119, R176). -/
def Obligations.StepKeepsTheHostState : Prop :=
  ∀ s t : State, s.hostSound → step s = .next t → t.hostSound

/-- A line waits for a slot only while slots in use are at or above the host slot limit, at every step (R102, R105). -/
def Obligations.StepKeepsWaitersOnlyWhenFull : Prop :=
  ∀ s t : State, s.waitersSound → step s = .next t → t.waitersSound

/-- Lines, dialogues, sessions and accounts agree at every step: a line and its session name each other, a HELD session has no
bound line, a line that is not CONNECTED has no session, and the wait queue holds the lines with a dialogue in WAITING, none twice
(R2, R13, R102, R103, R111, R112);
session numbers are 1 to 65,535 and name one session each (R113); account numbers ascend without repeats (R68), every session's
account is there (R76), and an active count is the number of the account's sessions (R84). A new number is found because no more
than 32 are in use (R112). -/
def Obligations.StepKeepsTheBindings : Prop :=
  ∀ s t : State, s.linesBound → s.numbersSound → s.accountsSound → s.slotsFit → step s = .next t →
    t.linesBound ∧ t.numbersSound ∧ t.accountsSound

/-- The invariants hold after reset. -/
def Obligations.InvariantsHoldAtReset : Prop :=
  State.reset.reportsFit ∧ State.reset.outputsFit ∧ State.reset.heldSound ∧ State.reset.bandFits ∧ State.reset.bandSettled
    ∧ State.reset.billsFit
    ∧ State.reset.slotsFit ∧ State.reset.moneyFits ∧ State.reset.metersSound ∧ State.reset.hostSound
    ∧ State.reset.waitersSound ∧ State.reset.linesBound ∧ State.reset.numbersSound ∧ State.reset.accountsSound

/-! ## Whole-machine rules -/

/-- The host goes DOWN at the link timeout's expiry alone (R175, R176), and a valid clock becomes invalid at power-up alone
(R128, R180). -/
def Obligations.OnlyTheTimeoutTakesTheHostDown : Prop :=
  ∀ (c : Instr) (s t : State), exec c s = .next t →
    (s.link.host = .up → t.link.host = .down → c = .linkTimeoutExpiry)
    ∧ (s.tariff.clockValid = true → t.tariff.clockValid = false → c = .powerUp)

/-- A bill record leaves the queue by TAKE BILL alone, at once or as the held order, or at power-up (R159, R163, R180); every
other command leaves the records in their order and joins its own to the tail. The assembler hunts: behind the LEAD of a frame in
assembly the bytes of another frame could be those of a TAKE BILL (R167). -/
def Obligations.BillsLeaveByTakeBillAlone : Prop :=
  ∀ (c : Instr) (s t : State), exec c s = .next t → c ≠ .powerUp → (∀ body, c ≠ .takeBill body) →
    s.link.assembler = .hunting → (c = .replySendStart → ∀ f, s.link.heldOrder = some f → f.kind ≠ 0x30#8) → ∃ bs, t.bills = s.bills ++ bs

/-- No command raises the number of session records above the host slot limit that it leaves (R97, R105). -/
def Obligations.AdmissionsKeepTheHostSlotLimit : Prop :=
  ∀ (c : Instr) (s t : State), exec c s = .next t →
    t.sessions.length ≤ s.sessions.length ∨ t.sessions.length ≤ t.link.limits.hostSlots
end

