-- ==== Sys2Proof/Laws/Ops.lean ====
section
/-! SUPPORT. What each named operation of Machine/Ops.lean leaves as it was, field by field, so that no later proof unfolds
it for a field it does not touch; and what reading a line gives after a write. -/

namespace Sys2Proof.Machine

/-! ## Reading and writing a line -/

/-- A line read after a write to it is what was written. -/
@[simp] theorem State.line_setLine_same (s : State) (p : Port) (l : Line) : (s.setLine p l).line p = l := by
  simp [State.line, State.setLine]

/-- A line read after a write to another line is as before. -/
theorem State.line_setLine_ne (s : State) (p q : Port) (l : Line) (h : q ≠ p) : (s.setLine p l).line q = s.line q := by
  have : (p : Nat) ≠ (q : Nat) := fun e => h (Fin.ext e.symm)
  simp [State.line, State.setLine, this]

/-- A line read after its change is the changed line. -/
@[simp] theorem State.line_mapLine_same (s : State) (p : Port) (f : Line → Line) : (s.mapLine p f).line p = f (s.line p) := by
  simp [State.mapLine]

/-- A line read after another line's change is as before. -/
theorem State.line_mapLine_ne (s : State) (p q : Port) (f : Line → Line) (h : q ≠ p) :
    (s.mapLine p f).line q = s.line q := State.line_setLine_ne s p q _ h

/-- States with the same lines read the same. -/
theorem State.line_congr {s t : State} (h : s.lines = t.lines) (p : Port) : s.line p = t.line p := by
  simp [State.line, h]

/-- Lines that read the same everywhere are the same. -/
theorem State.lines_ext {s t : State} (h : ∀ p : Port, s.line p = t.line p) : s.lines = t.lines := by
  ext i hi
  exact h ⟨i, hi⟩

/-! ## Frames -/

/-- What `State.setLine` leaves as it was. -/
@[simp] theorem State.setLine_frame (s : State) (p : Port) (l : Line) :
    (s.setLine p l).policies = s.policies ∧ (s.setLine p l).accounts = s.accounts ∧
    (s.setLine p l).classes = s.classes ∧ (s.setLine p l).messages = s.messages ∧
    (s.setLine p l).waitQueue = s.waitQueue ∧ (s.setLine p l).inputWait = s.inputWait ∧
    (s.setLine p l).sessions = s.sessions ∧ (s.setLine p l).nextNumber = s.nextNumber ∧
    (s.setLine p l).bills = s.bills ∧ (s.setLine p l).draws = s.draws ∧ (s.setLine p l).pending = s.pending ∧
    (s.setLine p l).tariff = s.tariff ∧ (s.setLine p l).link = s.link := by
  simp [State.setLine]

/-- What `State.mapLine` leaves as it was. -/
@[simp] theorem State.mapLine_frame (s : State) (p : Port) (f : Line → Line) :
    (s.mapLine p f).policies = s.policies ∧ (s.mapLine p f).accounts = s.accounts ∧
    (s.mapLine p f).classes = s.classes ∧ (s.mapLine p f).messages = s.messages ∧
    (s.mapLine p f).waitQueue = s.waitQueue ∧ (s.mapLine p f).inputWait = s.inputWait ∧
    (s.mapLine p f).sessions = s.sessions ∧ (s.mapLine p f).nextNumber = s.nextNumber ∧
    (s.mapLine p f).bills = s.bills ∧ (s.mapLine p f).draws = s.draws ∧ (s.mapLine p f).pending = s.pending ∧
    (s.mapLine p f).tariff = s.tariff ∧ (s.mapLine p f).link = s.link := by
  unfold State.mapLine
  simp

/-- What `State.queueReport` leaves as it was. -/
@[simp] theorem State.queueReport_frame (s : State) (r : Report) :
    (s.queueReport r).lines = s.lines ∧ (s.queueReport r).policies = s.policies ∧
    (s.queueReport r).accounts = s.accounts ∧ (s.queueReport r).classes = s.classes ∧
    (s.queueReport r).messages = s.messages ∧ (s.queueReport r).waitQueue = s.waitQueue ∧
    (s.queueReport r).inputWait = s.inputWait ∧ (s.queueReport r).sessions = s.sessions ∧
    (s.queueReport r).nextNumber = s.nextNumber ∧ (s.queueReport r).bills = s.bills ∧
    (s.queueReport r).draws = s.draws ∧ (s.queueReport r).pending = s.pending ∧
    (s.queueReport r).tariff = s.tariff ∧ (s.queueReport r).link.assembler = s.link.assembler ∧
    (s.queueReport r).link.heldOrder = s.link.heldOrder ∧ (s.queueReport r).link.replyPath = s.link.replyPath ∧
    (s.queueReport r).link.sending = s.link.sending ∧ (s.queueReport r).link.enables = s.link.enables ∧
    (s.queueReport r).link.host = s.link.host ∧ (s.queueReport r).link.timeoutRunning = s.link.timeoutRunning ∧
    (s.queueReport r).link.downRemaining = s.link.downRemaining ∧
    (s.queueReport r).link.secondsDown = s.link.secondsDown ∧
    (s.queueReport r).link.downExpired = s.link.downExpired ∧ (s.queueReport r).link.limits = s.link.limits := by
  unfold State.queueReport
  split <;> simp

/-- What `State.raiseEvent` leaves as it was. -/
@[simp] theorem State.raiseEvent_frame (s : State) (p : Port) (e : LineEvent) :
    (s.raiseEvent p e).policies = s.policies ∧ (s.raiseEvent p e).accounts = s.accounts ∧
    (s.raiseEvent p e).classes = s.classes ∧ (s.raiseEvent p e).messages = s.messages ∧
    (s.raiseEvent p e).waitQueue = s.waitQueue ∧ (s.raiseEvent p e).inputWait = s.inputWait ∧
    (s.raiseEvent p e).sessions = s.sessions ∧ (s.raiseEvent p e).nextNumber = s.nextNumber ∧
    (s.raiseEvent p e).bills = s.bills ∧ (s.raiseEvent p e).draws = s.draws ∧
    (s.raiseEvent p e).pending = s.pending ∧ (s.raiseEvent p e).tariff = s.tariff ∧
    (s.raiseEvent p e).link.assembler = s.link.assembler ∧ (s.raiseEvent p e).link.heldOrder = s.link.heldOrder ∧
    (s.raiseEvent p e).link.replyPath = s.link.replyPath ∧ (s.raiseEvent p e).link.sending = s.link.sending ∧
    (s.raiseEvent p e).link.enables = s.link.enables ∧ (s.raiseEvent p e).link.host = s.link.host ∧
    (s.raiseEvent p e).link.timeoutRunning = s.link.timeoutRunning ∧
    (s.raiseEvent p e).link.downRemaining = s.link.downRemaining ∧
    (s.raiseEvent p e).link.secondsDown = s.link.secondsDown ∧
    (s.raiseEvent p e).link.downExpired = s.link.downExpired ∧ (s.raiseEvent p e).link.limits = s.link.limits := by
  unfold State.raiseEvent
  repeat' (first | split | simp only [])
  all_goals simp

/-- What `State.mapSession` leaves as it was. -/
@[simp] theorem State.mapSession_frame (s : State) (n : Nat) (f : Session → Session) :
    (s.mapSession n f).lines = s.lines ∧ (s.mapSession n f).policies = s.policies ∧
    (s.mapSession n f).accounts = s.accounts ∧ (s.mapSession n f).classes = s.classes ∧
    (s.mapSession n f).messages = s.messages ∧ (s.mapSession n f).waitQueue = s.waitQueue ∧
    (s.mapSession n f).inputWait = s.inputWait ∧ (s.mapSession n f).nextNumber = s.nextNumber ∧
    (s.mapSession n f).bills = s.bills ∧ (s.mapSession n f).draws = s.draws ∧
    (s.mapSession n f).pending = s.pending ∧ (s.mapSession n f).tariff = s.tariff ∧ (s.mapSession n f).link = s.link := by
  simp [State.mapSession]

/-- What `State.mapAccount` leaves as it was. -/
@[simp] theorem State.mapAccount_frame (s : State) (a : Nat) (f : Account → Account) :
    (s.mapAccount a f).lines = s.lines ∧ (s.mapAccount a f).policies = s.policies ∧
    (s.mapAccount a f).classes = s.classes ∧ (s.mapAccount a f).messages = s.messages ∧
    (s.mapAccount a f).waitQueue = s.waitQueue ∧ (s.mapAccount a f).inputWait = s.inputWait ∧
    (s.mapAccount a f).sessions = s.sessions ∧ (s.mapAccount a f).nextNumber = s.nextNumber ∧
    (s.mapAccount a f).bills = s.bills ∧ (s.mapAccount a f).draws = s.draws ∧
    (s.mapAccount a f).pending = s.pending ∧ (s.mapAccount a f).tariff = s.tariff ∧ (s.mapAccount a f).link = s.link := by
  simp [State.mapAccount]

/-- What `State.drainedTest` leaves as it was. -/
@[simp] theorem State.drainedTest_frame (s : State) (p : Port) :
    (s.drainedTest p).policies = s.policies ∧ (s.drainedTest p).accounts = s.accounts ∧
    (s.drainedTest p).classes = s.classes ∧ (s.drainedTest p).messages = s.messages ∧
    (s.drainedTest p).waitQueue = s.waitQueue ∧ (s.drainedTest p).inputWait = s.inputWait ∧
    (s.drainedTest p).sessions = s.sessions ∧ (s.drainedTest p).nextNumber = s.nextNumber ∧
    (s.drainedTest p).bills = s.bills ∧ (s.drainedTest p).draws = s.draws ∧ (s.drainedTest p).pending = s.pending ∧
    (s.drainedTest p).tariff = s.tariff ∧ (s.drainedTest p).link.assembler = s.link.assembler ∧
    (s.drainedTest p).link.heldOrder = s.link.heldOrder ∧ (s.drainedTest p).link.replyPath = s.link.replyPath ∧
    (s.drainedTest p).link.sending = s.link.sending ∧ (s.drainedTest p).link.enables = s.link.enables ∧
    (s.drainedTest p).link.host = s.link.host ∧ (s.drainedTest p).link.timeoutRunning = s.link.timeoutRunning ∧
    (s.drainedTest p).link.downRemaining = s.link.downRemaining ∧
    (s.drainedTest p).link.secondsDown = s.link.secondsDown ∧
    (s.drainedTest p).link.downExpired = s.link.downExpired ∧ (s.drainedTest p).link.limits = s.link.limits := by
  unfold State.drainedTest
  repeat' (first | split | simp only [])
  all_goals simp

/-- What `State.discardOutput` leaves as it was. -/
@[simp] theorem State.discardOutput_frame (s : State) (p : Port) :
    (s.discardOutput p).policies = s.policies ∧ (s.discardOutput p).accounts = s.accounts ∧
    (s.discardOutput p).classes = s.classes ∧ (s.discardOutput p).messages = s.messages ∧
    (s.discardOutput p).waitQueue = s.waitQueue ∧ (s.discardOutput p).inputWait = s.inputWait ∧
    (s.discardOutput p).sessions = s.sessions ∧ (s.discardOutput p).nextNumber = s.nextNumber ∧
    (s.discardOutput p).bills = s.bills ∧ (s.discardOutput p).draws = s.draws ∧
    (s.discardOutput p).pending = s.pending ∧ (s.discardOutput p).tariff = s.tariff ∧
    (s.discardOutput p).link.assembler = s.link.assembler ∧ (s.discardOutput p).link.heldOrder = s.link.heldOrder ∧
    (s.discardOutput p).link.replyPath = s.link.replyPath ∧ (s.discardOutput p).link.sending = s.link.sending ∧
    (s.discardOutput p).link.enables = s.link.enables ∧ (s.discardOutput p).link.host = s.link.host ∧
    (s.discardOutput p).link.timeoutRunning = s.link.timeoutRunning ∧
    (s.discardOutput p).link.downRemaining = s.link.downRemaining ∧
    (s.discardOutput p).link.secondsDown = s.link.secondsDown ∧
    (s.discardOutput p).link.downExpired = s.link.downExpired ∧ (s.discardOutput p).link.limits = s.link.limits := by
  unfold State.discardOutput
  repeat' (first | split | simp only [])
  all_goals simp

/-- What `State.appendEcho` leaves as it was. -/
@[simp] theorem State.appendEcho_frame (s : State) (p : Port) (cs : List Code) :
    (s.appendEcho p cs).policies = s.policies ∧ (s.appendEcho p cs).accounts = s.accounts ∧
    (s.appendEcho p cs).classes = s.classes ∧ (s.appendEcho p cs).messages = s.messages ∧
    (s.appendEcho p cs).waitQueue = s.waitQueue ∧ (s.appendEcho p cs).inputWait = s.inputWait ∧
    (s.appendEcho p cs).sessions = s.sessions ∧ (s.appendEcho p cs).nextNumber = s.nextNumber ∧
    (s.appendEcho p cs).bills = s.bills ∧ (s.appendEcho p cs).draws = s.draws ∧
    (s.appendEcho p cs).pending = s.pending ∧ (s.appendEcho p cs).tariff = s.tariff ∧
    (s.appendEcho p cs).link = s.link := by
  unfold State.appendEcho
  repeat' (first | split | simp only [])
  all_goals simp

/-- What `State.sendBel` leaves as it was. -/
@[simp] theorem State.sendBel_frame (s : State) (p : Port) :
    (s.sendBel p).policies = s.policies ∧ (s.sendBel p).accounts = s.accounts ∧ (s.sendBel p).classes = s.classes ∧
    (s.sendBel p).messages = s.messages ∧ (s.sendBel p).waitQueue = s.waitQueue ∧
    (s.sendBel p).inputWait = s.inputWait ∧ (s.sendBel p).sessions = s.sessions ∧
    (s.sendBel p).nextNumber = s.nextNumber ∧ (s.sendBel p).bills = s.bills ∧ (s.sendBel p).draws = s.draws ∧
    (s.sendBel p).pending = s.pending ∧ (s.sendBel p).tariff = s.tariff ∧ (s.sendBel p).link = s.link := by
  unfold State.sendBel
  simp

/-- What `State.queueMessage` leaves as it was. -/
@[simp] theorem State.queueMessage_frame (s : State) (p : Port) (m : Slot) :
    (s.queueMessage p m).policies = s.policies ∧ (s.queueMessage p m).accounts = s.accounts ∧
    (s.queueMessage p m).classes = s.classes ∧ (s.queueMessage p m).messages = s.messages ∧
    (s.queueMessage p m).waitQueue = s.waitQueue ∧ (s.queueMessage p m).inputWait = s.inputWait ∧
    (s.queueMessage p m).sessions = s.sessions ∧ (s.queueMessage p m).nextNumber = s.nextNumber ∧
    (s.queueMessage p m).bills = s.bills ∧ (s.queueMessage p m).draws = s.draws ∧
    (s.queueMessage p m).pending = s.pending ∧ (s.queueMessage p m).tariff = s.tariff ∧
    (s.queueMessage p m).link = s.link := by
  unfold State.queueMessage
  repeat' (first | split | simp only [])
  all_goals simp

/-- What `State.queueMessageTo` leaves as it was. -/
@[simp] theorem State.queueMessageTo_frame (s : State) (o : Option Port) (m : Slot) :
    (s.queueMessageTo o m).policies = s.policies ∧ (s.queueMessageTo o m).accounts = s.accounts ∧
    (s.queueMessageTo o m).classes = s.classes ∧ (s.queueMessageTo o m).messages = s.messages ∧
    (s.queueMessageTo o m).waitQueue = s.waitQueue ∧ (s.queueMessageTo o m).inputWait = s.inputWait ∧
    (s.queueMessageTo o m).sessions = s.sessions ∧ (s.queueMessageTo o m).nextNumber = s.nextNumber ∧
    (s.queueMessageTo o m).bills = s.bills ∧ (s.queueMessageTo o m).draws = s.draws ∧
    (s.queueMessageTo o m).pending = s.pending ∧ (s.queueMessageTo o m).tariff = s.tariff ∧
    (s.queueMessageTo o m).link = s.link := by
  unfold State.queueMessageTo
  repeat' (first | split | simp only [])
  all_goals simp

/-- What `State.offerRecord` leaves as it was. -/
@[simp] theorem State.offerRecord_frame (s : State) (p : Port) (n : Nat) (r : InputRecord) :
    (s.offerRecord p n r).policies = s.policies ∧ (s.offerRecord p n r).accounts = s.accounts ∧
    (s.offerRecord p n r).classes = s.classes ∧ (s.offerRecord p n r).messages = s.messages ∧
    (s.offerRecord p n r).waitQueue = s.waitQueue ∧ (s.offerRecord p n r).sessions = s.sessions ∧
    (s.offerRecord p n r).nextNumber = s.nextNumber ∧ (s.offerRecord p n r).bills = s.bills ∧
    (s.offerRecord p n r).draws = s.draws ∧ (s.offerRecord p n r).pending = s.pending ∧
    (s.offerRecord p n r).tariff = s.tariff ∧ (s.offerRecord p n r).link.assembler = s.link.assembler ∧
    (s.offerRecord p n r).link.heldOrder = s.link.heldOrder ∧
    (s.offerRecord p n r).link.replyPath = s.link.replyPath ∧ (s.offerRecord p n r).link.sending = s.link.sending ∧
    (s.offerRecord p n r).link.lost = s.link.lost ∧ (s.offerRecord p n r).link.enables = s.link.enables ∧
    (s.offerRecord p n r).link.host = s.link.host ∧
    (s.offerRecord p n r).link.timeoutRunning = s.link.timeoutRunning ∧
    (s.offerRecord p n r).link.downRemaining = s.link.downRemaining ∧
    (s.offerRecord p n r).link.secondsDown = s.link.secondsDown ∧
    (s.offerRecord p n r).link.downExpired = s.link.downExpired ∧ (s.offerRecord p n r).link.limits = s.link.limits := by
  unfold State.offerRecord
  repeat' (first | split | simp only [])
  all_goals simp

/-- What `State.releaseInput` leaves as it was. -/
@[simp] theorem State.releaseInput_frame (ps : List Port) (s : State) :
    (s.releaseInput ps).policies = s.policies ∧ (s.releaseInput ps).accounts = s.accounts ∧
    (s.releaseInput ps).classes = s.classes ∧ (s.releaseInput ps).messages = s.messages ∧
    (s.releaseInput ps).waitQueue = s.waitQueue ∧ (s.releaseInput ps).sessions = s.sessions ∧
    (s.releaseInput ps).nextNumber = s.nextNumber ∧ (s.releaseInput ps).bills = s.bills ∧
    (s.releaseInput ps).draws = s.draws ∧ (s.releaseInput ps).pending = s.pending ∧
    (s.releaseInput ps).tariff = s.tariff ∧ (s.releaseInput ps).link.assembler = s.link.assembler ∧
    (s.releaseInput ps).link.heldOrder = s.link.heldOrder ∧ (s.releaseInput ps).link.replyPath = s.link.replyPath ∧
    (s.releaseInput ps).link.sending = s.link.sending ∧ (s.releaseInput ps).link.lost = s.link.lost ∧
    (s.releaseInput ps).link.enables = s.link.enables ∧ (s.releaseInput ps).link.host = s.link.host ∧
    (s.releaseInput ps).link.timeoutRunning = s.link.timeoutRunning ∧
    (s.releaseInput ps).link.downRemaining = s.link.downRemaining ∧
    (s.releaseInput ps).link.secondsDown = s.link.secondsDown ∧
    (s.releaseInput ps).link.downExpired = s.link.downExpired ∧ (s.releaseInput ps).link.limits = s.link.limits := by
  induction ps generalizing s with
  | nil => simp [State.releaseInput]
  | cons p rest ih =>
    unfold State.releaseInput
    try simp only []
    repeat' (first | split | simp only [])
    all_goals simp [ih]

/-- What `State.discardWaiting` leaves as it was. -/
@[simp] theorem State.discardWaiting_frame (s : State) (p : Port) :
    (s.discardWaiting p).policies = s.policies ∧ (s.discardWaiting p).accounts = s.accounts ∧
    (s.discardWaiting p).classes = s.classes ∧ (s.discardWaiting p).messages = s.messages ∧
    (s.discardWaiting p).waitQueue = s.waitQueue ∧ (s.discardWaiting p).sessions = s.sessions ∧
    (s.discardWaiting p).nextNumber = s.nextNumber ∧ (s.discardWaiting p).bills = s.bills ∧
    (s.discardWaiting p).draws = s.draws ∧ (s.discardWaiting p).pending = s.pending ∧
    (s.discardWaiting p).tariff = s.tariff ∧ (s.discardWaiting p).link = s.link := by
  unfold State.discardWaiting
  repeat' (first | split | simp only [])
  all_goals simp

/-- What `State.unbindLine` leaves as it was. -/
@[simp] theorem State.unbindLine_frame (s : State) (p : Port) :
    (s.unbindLine p).policies = s.policies ∧ (s.unbindLine p).accounts = s.accounts ∧
    (s.unbindLine p).classes = s.classes ∧ (s.unbindLine p).messages = s.messages ∧
    (s.unbindLine p).waitQueue = s.waitQueue ∧ (s.unbindLine p).sessions = s.sessions ∧
    (s.unbindLine p).nextNumber = s.nextNumber ∧ (s.unbindLine p).bills = s.bills ∧
    (s.unbindLine p).draws = s.draws ∧ (s.unbindLine p).pending = s.pending ∧ (s.unbindLine p).tariff = s.tariff ∧
    (s.unbindLine p).link = s.link := by
  unfold State.unbindLine
  simp

/-- What `State.goOnHook` leaves as it was. -/
@[simp] theorem State.goOnHook_frame (s : State) (p : Port) (d : Destination) :
    (s.goOnHook p d).policies = s.policies ∧ (s.goOnHook p d).accounts = s.accounts ∧
    (s.goOnHook p d).classes = s.classes ∧ (s.goOnHook p d).messages = s.messages ∧
    (s.goOnHook p d).sessions = s.sessions ∧ (s.goOnHook p d).nextNumber = s.nextNumber ∧
    (s.goOnHook p d).bills = s.bills ∧ (s.goOnHook p d).draws = s.draws ∧ (s.goOnHook p d).pending = s.pending ∧
    (s.goOnHook p d).tariff = s.tariff ∧ (s.goOnHook p d).link = s.link := by
  unfold State.goOnHook
  simp

/-- What `State.dropWithoutMessage` leaves as it was. -/
@[simp] theorem State.dropWithoutMessage_frame (s : State) (p : Port) (d : Destination) :
    (s.dropWithoutMessage p d).policies = s.policies ∧ (s.dropWithoutMessage p d).accounts = s.accounts ∧
    (s.dropWithoutMessage p d).classes = s.classes ∧ (s.dropWithoutMessage p d).messages = s.messages ∧
    (s.dropWithoutMessage p d).sessions = s.sessions ∧ (s.dropWithoutMessage p d).nextNumber = s.nextNumber ∧
    (s.dropWithoutMessage p d).bills = s.bills ∧ (s.dropWithoutMessage p d).draws = s.draws ∧
    (s.dropWithoutMessage p d).pending = s.pending ∧ (s.dropWithoutMessage p d).tariff = s.tariff ∧
    (s.dropWithoutMessage p d).link.assembler = s.link.assembler ∧
    (s.dropWithoutMessage p d).link.heldOrder = s.link.heldOrder ∧
    (s.dropWithoutMessage p d).link.replyPath = s.link.replyPath ∧
    (s.dropWithoutMessage p d).link.sending = s.link.sending ∧
    (s.dropWithoutMessage p d).link.enables = s.link.enables ∧ (s.dropWithoutMessage p d).link.host = s.link.host ∧
    (s.dropWithoutMessage p d).link.timeoutRunning = s.link.timeoutRunning ∧
    (s.dropWithoutMessage p d).link.downRemaining = s.link.downRemaining ∧
    (s.dropWithoutMessage p d).link.secondsDown = s.link.secondsDown ∧
    (s.dropWithoutMessage p d).link.downExpired = s.link.downExpired ∧
    (s.dropWithoutMessage p d).link.limits = s.link.limits := by
  unfold State.dropWithoutMessage
  repeat' (first | split | simp only [])
  all_goals simp

/-- What `State.dropWithMessage` leaves as it was. -/
@[simp] theorem State.dropWithMessage_frame (s : State) (p : Port) :
    (s.dropWithMessage p).policies = s.policies ∧ (s.dropWithMessage p).accounts = s.accounts ∧
    (s.dropWithMessage p).classes = s.classes ∧ (s.dropWithMessage p).messages = s.messages ∧
    (s.dropWithMessage p).sessions = s.sessions ∧ (s.dropWithMessage p).nextNumber = s.nextNumber ∧
    (s.dropWithMessage p).bills = s.bills ∧ (s.dropWithMessage p).draws = s.draws ∧
    (s.dropWithMessage p).pending = s.pending ∧ (s.dropWithMessage p).tariff = s.tariff ∧
    (s.dropWithMessage p).link.assembler = s.link.assembler ∧
    (s.dropWithMessage p).link.heldOrder = s.link.heldOrder ∧
    (s.dropWithMessage p).link.replyPath = s.link.replyPath ∧ (s.dropWithMessage p).link.sending = s.link.sending ∧
    (s.dropWithMessage p).link.enables = s.link.enables ∧ (s.dropWithMessage p).link.host = s.link.host ∧
    (s.dropWithMessage p).link.timeoutRunning = s.link.timeoutRunning ∧
    (s.dropWithMessage p).link.downRemaining = s.link.downRemaining ∧
    (s.dropWithMessage p).link.secondsDown = s.link.secondsDown ∧
    (s.dropWithMessage p).link.downExpired = s.link.downExpired ∧ (s.dropWithMessage p).link.limits = s.link.limits := by
  unfold State.dropWithMessage
  repeat' (first | split | simp only [])
  all_goals simp

/-- What `State.endDialogue` leaves as it was. -/
@[simp] theorem State.endDialogue_frame (s : State) (p : Port) :
    (s.endDialogue p).policies = s.policies ∧ (s.endDialogue p).accounts = s.accounts ∧
    (s.endDialogue p).classes = s.classes ∧ (s.endDialogue p).messages = s.messages ∧
    (s.endDialogue p).inputWait = s.inputWait ∧ (s.endDialogue p).sessions = s.sessions ∧
    (s.endDialogue p).nextNumber = s.nextNumber ∧ (s.endDialogue p).bills = s.bills ∧
    (s.endDialogue p).draws = s.draws ∧ (s.endDialogue p).pending = s.pending ∧
    (s.endDialogue p).tariff = s.tariff ∧ (s.endDialogue p).link = s.link := by
  unfold State.endDialogue
  simp

/-- What `State.farewell` leaves as it was. -/
@[simp] theorem State.farewell_frame (s : State) (p : Port) :
    (s.farewell p).policies = s.policies ∧ (s.farewell p).accounts = s.accounts ∧
    (s.farewell p).classes = s.classes ∧ (s.farewell p).messages = s.messages ∧
    (s.farewell p).sessions = s.sessions ∧ (s.farewell p).nextNumber = s.nextNumber ∧
    (s.farewell p).bills = s.bills ∧ (s.farewell p).draws = s.draws ∧ (s.farewell p).pending = s.pending ∧
    (s.farewell p).tariff = s.tariff ∧ (s.farewell p).link.assembler = s.link.assembler ∧
    (s.farewell p).link.heldOrder = s.link.heldOrder ∧ (s.farewell p).link.replyPath = s.link.replyPath ∧
    (s.farewell p).link.sending = s.link.sending ∧ (s.farewell p).link.enables = s.link.enables ∧
    (s.farewell p).link.host = s.link.host ∧ (s.farewell p).link.timeoutRunning = s.link.timeoutRunning ∧
    (s.farewell p).link.downRemaining = s.link.downRemaining ∧
    (s.farewell p).link.secondsDown = s.link.secondsDown ∧ (s.farewell p).link.downExpired = s.link.downExpired ∧
    (s.farewell p).link.limits = s.link.limits := by
  unfold State.farewell
  simp

/-- What `State.setBand` leaves as it was. -/
@[simp] theorem State.setBand_frame (s : State) (b : Nat) (q : Bool) :
    (s.setBand b q).lines = s.lines ∧ (s.setBand b q).policies = s.policies ∧
    (s.setBand b q).accounts = s.accounts ∧ (s.setBand b q).classes = s.classes ∧
    (s.setBand b q).messages = s.messages ∧ (s.setBand b q).waitQueue = s.waitQueue ∧
    (s.setBand b q).inputWait = s.inputWait ∧ (s.setBand b q).sessions = s.sessions ∧
    (s.setBand b q).nextNumber = s.nextNumber ∧ (s.setBand b q).bills = s.bills ∧ (s.setBand b q).draws = s.draws ∧
    (s.setBand b q).pending = s.pending ∧ (s.setBand b q).tariff.clockValid = s.tariff.clockValid ∧
    (s.setBand b q).tariff.clock = s.tariff.clock ∧ (s.setBand b q).tariff.active = s.tariff.active ∧
    (s.setBand b q).tariff.standby = s.tariff.standby ∧
    (s.setBand b q).tariff.activePresent = s.tariff.activePresent ∧
    (s.setBand b q).tariff.commit = s.tariff.commit ∧ (s.setBand b q).tariff.period = s.tariff.period ∧
    (s.setBand b q).tariff.steps = s.tariff.steps ∧ (s.setBand b q).link.assembler = s.link.assembler ∧
    (s.setBand b q).link.heldOrder = s.link.heldOrder ∧ (s.setBand b q).link.replyPath = s.link.replyPath ∧
    (s.setBand b q).link.sending = s.link.sending ∧ (s.setBand b q).link.enables = s.link.enables ∧
    (s.setBand b q).link.host = s.link.host ∧ (s.setBand b q).link.timeoutRunning = s.link.timeoutRunning ∧
    (s.setBand b q).link.downRemaining = s.link.downRemaining ∧
    (s.setBand b q).link.secondsDown = s.link.secondsDown ∧ (s.setBand b q).link.downExpired = s.link.downExpired ∧
    (s.setBand b q).link.limits = s.link.limits := by
  unfold State.setBand
  repeat' (first | split | simp only [])
  all_goals simp

/-- What `State.raiseBand` leaves as it was. -/
@[simp] theorem State.raiseBand_frame (k : Nat) (s : State) (q : Bool) :
    (State.raiseBand k s q).lines = s.lines ∧ (State.raiseBand k s q).policies = s.policies ∧
    (State.raiseBand k s q).accounts = s.accounts ∧ (State.raiseBand k s q).classes = s.classes ∧
    (State.raiseBand k s q).messages = s.messages ∧ (State.raiseBand k s q).waitQueue = s.waitQueue ∧
    (State.raiseBand k s q).inputWait = s.inputWait ∧ (State.raiseBand k s q).sessions = s.sessions ∧
    (State.raiseBand k s q).nextNumber = s.nextNumber ∧ (State.raiseBand k s q).bills = s.bills ∧
    (State.raiseBand k s q).draws = s.draws ∧ (State.raiseBand k s q).pending = s.pending ∧
    (State.raiseBand k s q).tariff.clockValid = s.tariff.clockValid ∧
    (State.raiseBand k s q).tariff.clock = s.tariff.clock ∧
    (State.raiseBand k s q).tariff.active = s.tariff.active ∧
    (State.raiseBand k s q).tariff.standby = s.tariff.standby ∧
    (State.raiseBand k s q).tariff.activePresent = s.tariff.activePresent ∧
    (State.raiseBand k s q).tariff.commit = s.tariff.commit ∧
    (State.raiseBand k s q).tariff.period = s.tariff.period ∧
    (State.raiseBand k s q).tariff.steps = s.tariff.steps ∧
    (State.raiseBand k s q).link.assembler = s.link.assembler ∧
    (State.raiseBand k s q).link.heldOrder = s.link.heldOrder ∧
    (State.raiseBand k s q).link.replyPath = s.link.replyPath ∧
    (State.raiseBand k s q).link.sending = s.link.sending ∧ (State.raiseBand k s q).link.enables = s.link.enables ∧
    (State.raiseBand k s q).link.host = s.link.host ∧
    (State.raiseBand k s q).link.timeoutRunning = s.link.timeoutRunning ∧
    (State.raiseBand k s q).link.downRemaining = s.link.downRemaining ∧
    (State.raiseBand k s q).link.secondsDown = s.link.secondsDown ∧
    (State.raiseBand k s q).link.downExpired = s.link.downExpired ∧
    (State.raiseBand k s q).link.limits = s.link.limits := by
  induction k generalizing s with
  | zero => simp [State.raiseBand]
  | succ k ih =>
    unfold State.raiseBand
    split <;> simp [ih]

/-- What `State.lowerBand` leaves as it was. -/
@[simp] theorem State.lowerBand_frame (k : Nat) (s : State) (q : Bool) :
    (State.lowerBand k s q).lines = s.lines ∧ (State.lowerBand k s q).policies = s.policies ∧
    (State.lowerBand k s q).accounts = s.accounts ∧ (State.lowerBand k s q).classes = s.classes ∧
    (State.lowerBand k s q).messages = s.messages ∧ (State.lowerBand k s q).waitQueue = s.waitQueue ∧
    (State.lowerBand k s q).inputWait = s.inputWait ∧ (State.lowerBand k s q).sessions = s.sessions ∧
    (State.lowerBand k s q).nextNumber = s.nextNumber ∧ (State.lowerBand k s q).bills = s.bills ∧
    (State.lowerBand k s q).draws = s.draws ∧ (State.lowerBand k s q).pending = s.pending ∧
    (State.lowerBand k s q).tariff.clockValid = s.tariff.clockValid ∧
    (State.lowerBand k s q).tariff.clock = s.tariff.clock ∧
    (State.lowerBand k s q).tariff.active = s.tariff.active ∧
    (State.lowerBand k s q).tariff.standby = s.tariff.standby ∧
    (State.lowerBand k s q).tariff.activePresent = s.tariff.activePresent ∧
    (State.lowerBand k s q).tariff.commit = s.tariff.commit ∧
    (State.lowerBand k s q).tariff.period = s.tariff.period ∧
    (State.lowerBand k s q).tariff.steps = s.tariff.steps ∧
    (State.lowerBand k s q).link.assembler = s.link.assembler ∧
    (State.lowerBand k s q).link.heldOrder = s.link.heldOrder ∧
    (State.lowerBand k s q).link.replyPath = s.link.replyPath ∧
    (State.lowerBand k s q).link.sending = s.link.sending ∧ (State.lowerBand k s q).link.enables = s.link.enables ∧
    (State.lowerBand k s q).link.host = s.link.host ∧
    (State.lowerBand k s q).link.timeoutRunning = s.link.timeoutRunning ∧
    (State.lowerBand k s q).link.downRemaining = s.link.downRemaining ∧
    (State.lowerBand k s q).link.secondsDown = s.link.secondsDown ∧
    (State.lowerBand k s q).link.downExpired = s.link.downExpired ∧
    (State.lowerBand k s q).link.limits = s.link.limits := by
  induction k generalizing s with
  | zero => simp [State.lowerBand]
  | succ k ih =>
    unfold State.lowerBand
    split <;> simp [ih]

/-- What `State.reband` leaves as it was. -/
@[simp] theorem State.reband_frame (s : State) (q : Bool) :
    (s.reband q).lines = s.lines ∧ (s.reband q).policies = s.policies ∧ (s.reband q).accounts = s.accounts ∧
    (s.reband q).classes = s.classes ∧ (s.reband q).messages = s.messages ∧ (s.reband q).waitQueue = s.waitQueue ∧
    (s.reband q).inputWait = s.inputWait ∧ (s.reband q).sessions = s.sessions ∧
    (s.reband q).nextNumber = s.nextNumber ∧ (s.reband q).bills = s.bills ∧ (s.reband q).draws = s.draws ∧
    (s.reband q).pending = s.pending ∧ (s.reband q).tariff.clockValid = s.tariff.clockValid ∧
    (s.reband q).tariff.clock = s.tariff.clock ∧ (s.reband q).tariff.active = s.tariff.active ∧
    (s.reband q).tariff.standby = s.tariff.standby ∧ (s.reband q).tariff.activePresent = s.tariff.activePresent ∧
    (s.reband q).tariff.commit = s.tariff.commit ∧ (s.reband q).tariff.period = s.tariff.period ∧
    (s.reband q).tariff.steps = s.tariff.steps ∧ (s.reband q).link.assembler = s.link.assembler ∧
    (s.reband q).link.heldOrder = s.link.heldOrder ∧ (s.reband q).link.replyPath = s.link.replyPath ∧
    (s.reband q).link.sending = s.link.sending ∧ (s.reband q).link.enables = s.link.enables ∧
    (s.reband q).link.host = s.link.host ∧ (s.reband q).link.timeoutRunning = s.link.timeoutRunning ∧
    (s.reband q).link.downRemaining = s.link.downRemaining ∧ (s.reband q).link.secondsDown = s.link.secondsDown ∧
    (s.reband q).link.downExpired = s.link.downExpired ∧ (s.reband q).link.limits = s.link.limits := by
  unfold State.reband
  simp

/-- What `State.nextDraw` leaves as it was. -/
@[simp] theorem State.nextDraw_frame (s : State) :
    (s.nextDraw).lines = s.lines ∧ (s.nextDraw).policies = s.policies ∧ (s.nextDraw).accounts = s.accounts ∧
    (s.nextDraw).classes = s.classes ∧ (s.nextDraw).messages = s.messages ∧ (s.nextDraw).waitQueue = s.waitQueue ∧
    (s.nextDraw).inputWait = s.inputWait ∧ (s.nextDraw).sessions = s.sessions ∧
    (s.nextDraw).nextNumber = s.nextNumber ∧ (s.nextDraw).bills = s.bills ∧ (s.nextDraw).pending = s.pending ∧
    (s.nextDraw).tariff = s.tariff ∧ (s.nextDraw).link = s.link := by
  simp [State.nextDraw]

/-! ## Operations on one line leave the others -/

/-- Reading a line depends on the lines alone; with the frames above this settles every operation that leaves them. -/
theorem State.line_keep (s : State) (q : Port) : s.line q = s.lines[q] := rfl

/-- `State.raiseEvent` touches no line but the one it names. -/
theorem State.raiseEvent_line_ne (s : State) (p : Port) (e : LineEvent) (q : Port) (h : q ≠ p) :
    (s.raiseEvent p e).line q = s.line q := by
  have hv : (p : Nat) ≠ (q : Nat) := fun e => h (Fin.ext e.symm)
  unfold State.raiseEvent
  repeat' (first | split | simp only [])
  all_goals simp [State.line, State.mapLine, State.setLine, hv]

/-- `State.drainedTest` touches no line but the one it names. -/
theorem State.drainedTest_line_ne (s : State) (p : Port) (q : Port) (h : q ≠ p) :
    (s.drainedTest p).line q = s.line q := by
  have hv : (p : Nat) ≠ (q : Nat) := fun e => h (Fin.ext e.symm)
  unfold State.drainedTest
  repeat' (first | split | simp only [])
  all_goals simp [State.line, State.setLine, hv]

/-- `State.appendEcho` touches no line but the one it names. -/
theorem State.appendEcho_line_ne (s : State) (p : Port) (cs : List Code) (q : Port) (h : q ≠ p) :
    (s.appendEcho p cs).line q = s.line q := by
  have hv : (p : Nat) ≠ (q : Nat) := fun e => h (Fin.ext e.symm)
  unfold State.appendEcho
  repeat' (first | split | simp only [])
  all_goals simp [State.line, State.setLine, hv]

/-- `State.queueMessage` touches no line but the one it names. -/
theorem State.queueMessage_line_ne (s : State) (p : Port) (m : Slot) (q : Port) (h : q ≠ p) :
    (s.queueMessage p m).line q = s.line q := by
  have hv : (p : Nat) ≠ (q : Nat) := fun e => h (Fin.ext e.symm)
  unfold State.queueMessage
  repeat' (first | split | simp only [])
  all_goals simp [State.line, State.setLine, hv]

/-- `State.goOnHook` touches no line but the one it names. -/
theorem State.goOnHook_line_ne (s : State) (p : Port) (d : Destination) (q : Port) (h : q ≠ p) :
    (s.goOnHook p d).line q = s.line q := by
  have hv : (p : Nat) ≠ (q : Nat) := fun e => h (Fin.ext e.symm)
  unfold State.goOnHook
  repeat' (first | split | simp only [])
  all_goals simp [State.line, State.mapLine, State.setLine, hv]

/-- `State.discardWaiting` touches no line but the one it names. -/
theorem State.discardWaiting_line_ne (s : State) (p : Port) (q : Port) (h : q ≠ p) :
    (s.discardWaiting p).line q = s.line q := by
  have hv : (p : Nat) ≠ (q : Nat) := fun e => h (Fin.ext e.symm)
  unfold State.discardWaiting
  repeat' (first | split | simp only [])
  all_goals simp [State.line, State.mapLine, State.setLine, hv]

/-- `State.endDialogue` touches no line but the one it names. -/
theorem State.endDialogue_line_ne (s : State) (p : Port) (q : Port) (h : q ≠ p) :
    (s.endDialogue p).line q = s.line q := by
  have hv : (p : Nat) ≠ (q : Nat) := fun e => h (Fin.ext e.symm)
  unfold State.endDialogue
  repeat' (first | split | simp only [])
  all_goals simp [State.line, State.mapLine, State.setLine, hv]


end Sys2Proof.Machine
end

