-- ==== Sys2Proof/Laws/Sessions.lean ====
section
/-! SUPPORT. What the operations of the Meter Unit, the Session Table, the Fault Monitor and the Sign-On Unit leave as it was, field by field. -/

namespace Sys2Proof.Machine

/-! ## The Meter Unit -/

/-- What `State.bookUnits` leaves as it was. -/
@[simp] theorem State.bookUnits_frame (s : State) (n k : Nat) :
    (s.bookUnits n k).lines = s.lines ∧ (s.bookUnits n k).policies = s.policies ∧
    (s.bookUnits n k).classes = s.classes ∧ (s.bookUnits n k).messages = s.messages ∧
    (s.bookUnits n k).waitQueue = s.waitQueue ∧ (s.bookUnits n k).inputWait = s.inputWait ∧
    (s.bookUnits n k).nextNumber = s.nextNumber ∧ (s.bookUnits n k).bills = s.bills ∧
    (s.bookUnits n k).draws = s.draws ∧ (s.bookUnits n k).pending = s.pending ∧
    (s.bookUnits n k).tariff = s.tariff ∧ (s.bookUnits n k).link = s.link := by
  unfold State.bookUnits
  repeat' (first | split | simp only [])
  all_goals simp

/-- What `State.lowFundsTest` leaves as it was. -/
@[simp] theorem State.lowFundsTest_frame (s : State) (n : Nat) :
    (s.lowFundsTest n).policies = s.policies ∧ (s.lowFundsTest n).accounts = s.accounts ∧
    (s.lowFundsTest n).classes = s.classes ∧ (s.lowFundsTest n).messages = s.messages ∧
    (s.lowFundsTest n).waitQueue = s.waitQueue ∧ (s.lowFundsTest n).inputWait = s.inputWait ∧
    (s.lowFundsTest n).nextNumber = s.nextNumber ∧ (s.lowFundsTest n).bills = s.bills ∧
    (s.lowFundsTest n).draws = s.draws ∧ (s.lowFundsTest n).pending = s.pending ∧
    (s.lowFundsTest n).tariff = s.tariff ∧ (s.lowFundsTest n).link.assembler = s.link.assembler ∧
    (s.lowFundsTest n).link.heldOrder = s.link.heldOrder ∧ (s.lowFundsTest n).link.replyPath = s.link.replyPath ∧
    (s.lowFundsTest n).link.sending = s.link.sending ∧ (s.lowFundsTest n).link.enables = s.link.enables ∧
    (s.lowFundsTest n).link.host = s.link.host ∧ (s.lowFundsTest n).link.timeoutRunning = s.link.timeoutRunning ∧
    (s.lowFundsTest n).link.downRemaining = s.link.downRemaining ∧
    (s.lowFundsTest n).link.secondsDown = s.link.secondsDown ∧
    (s.lowFundsTest n).link.downExpired = s.link.downExpired ∧ (s.lowFundsTest n).link.limits = s.link.limits := by
  unfold State.lowFundsTest
  repeat' (first | split | simp only [])
  all_goals simp

/-- What `State.graceStart` leaves as it was. -/
@[simp] theorem State.graceStart_frame (s : State) (n : Nat) :
    ((s.graceStart n).1).lines = s.lines ∧ ((s.graceStart n).1).policies = s.policies ∧
    ((s.graceStart n).1).accounts = s.accounts ∧ ((s.graceStart n).1).classes = s.classes ∧
    ((s.graceStart n).1).messages = s.messages ∧ ((s.graceStart n).1).waitQueue = s.waitQueue ∧
    ((s.graceStart n).1).inputWait = s.inputWait ∧ ((s.graceStart n).1).nextNumber = s.nextNumber ∧
    ((s.graceStart n).1).bills = s.bills ∧ ((s.graceStart n).1).draws = s.draws ∧
    ((s.graceStart n).1).pending = s.pending ∧ ((s.graceStart n).1).tariff = s.tariff ∧
    ((s.graceStart n).1).link = s.link := by
  unfold State.graceStart
  repeat' (first | split | simp only [])
  all_goals simp

/-- What `State.lowerCountdowns` leaves as it was. -/
@[simp] theorem State.lowerCountdowns_frame (s : State) (n : Nat) (a b : Bool) :
    ((s.lowerCountdowns n a b).1).lines = s.lines ∧ ((s.lowerCountdowns n a b).1).policies = s.policies ∧
    ((s.lowerCountdowns n a b).1).accounts = s.accounts ∧ ((s.lowerCountdowns n a b).1).classes = s.classes ∧
    ((s.lowerCountdowns n a b).1).messages = s.messages ∧ ((s.lowerCountdowns n a b).1).waitQueue = s.waitQueue ∧
    ((s.lowerCountdowns n a b).1).inputWait = s.inputWait ∧
    ((s.lowerCountdowns n a b).1).nextNumber = s.nextNumber ∧ ((s.lowerCountdowns n a b).1).bills = s.bills ∧
    ((s.lowerCountdowns n a b).1).draws = s.draws ∧ ((s.lowerCountdowns n a b).1).pending = s.pending ∧
    ((s.lowerCountdowns n a b).1).tariff = s.tariff ∧ ((s.lowerCountdowns n a b).1).link = s.link := by
  unfold State.lowerCountdowns
  repeat' (first | split | simp only [])
  all_goals simp

/-- What `State.chargeSecond` leaves as it was. -/
@[simp] theorem State.chargeSecond_frame (s : State) (n : Nat) (c : Bool) :
    ((s.chargeSecond n c).1).policies = s.policies ∧ ((s.chargeSecond n c).1).classes = s.classes ∧
    ((s.chargeSecond n c).1).messages = s.messages ∧ ((s.chargeSecond n c).1).waitQueue = s.waitQueue ∧
    ((s.chargeSecond n c).1).inputWait = s.inputWait ∧ ((s.chargeSecond n c).1).nextNumber = s.nextNumber ∧
    ((s.chargeSecond n c).1).bills = s.bills ∧ ((s.chargeSecond n c).1).draws = s.draws ∧
    ((s.chargeSecond n c).1).pending = s.pending ∧ ((s.chargeSecond n c).1).tariff = s.tariff ∧
    ((s.chargeSecond n c).1).link.assembler = s.link.assembler ∧
    ((s.chargeSecond n c).1).link.heldOrder = s.link.heldOrder ∧
    ((s.chargeSecond n c).1).link.replyPath = s.link.replyPath ∧
    ((s.chargeSecond n c).1).link.sending = s.link.sending ∧
    ((s.chargeSecond n c).1).link.enables = s.link.enables ∧ ((s.chargeSecond n c).1).link.host = s.link.host ∧
    ((s.chargeSecond n c).1).link.timeoutRunning = s.link.timeoutRunning ∧
    ((s.chargeSecond n c).1).link.downRemaining = s.link.downRemaining ∧
    ((s.chargeSecond n c).1).link.secondsDown = s.link.secondsDown ∧
    ((s.chargeSecond n c).1).link.downExpired = s.link.downExpired ∧
    ((s.chargeSecond n c).1).link.limits = s.link.limits := by
  unfold State.chargeSecond
  split
  · simp
  · rename_i x _
    have hg := fun q : State => State.graceStart_frame q n
    try simp only []
    split
    · rename_i heq
      have := hg (((s.mapSession n (fun y => { y with meter := (x.meter.accumulate x.snapshot.record.cap).2 })).bookUnits n
        (x.meter.accumulate x.snapshot.record.cap).1).lowFundsTest n)
      rw [heq] at this
      simp at this
      simp [this]
    · rename_i heq
      have := hg (((s.mapSession n (fun y => { y with meter := (x.meter.accumulate x.snapshot.record.cap).2 })).bookUnits n
        (x.meter.accumulate x.snapshot.record.cap).1).lowFundsTest n)
      rw [heq] at this
      simp at this
      simp [this]

/-- What `State.relatch` leaves as it was. -/
@[simp] theorem State.relatch_frame (s : State) (n : Nat) (w : Latch) :
    (s.relatch n w).lines = s.lines ∧ (s.relatch n w).policies = s.policies ∧
    (s.relatch n w).accounts = s.accounts ∧ (s.relatch n w).classes = s.classes ∧
    (s.relatch n w).messages = s.messages ∧ (s.relatch n w).waitQueue = s.waitQueue ∧
    (s.relatch n w).inputWait = s.inputWait ∧ (s.relatch n w).nextNumber = s.nextNumber ∧
    (s.relatch n w).bills = s.bills ∧ (s.relatch n w).draws = s.draws ∧ (s.relatch n w).pending = s.pending ∧
    (s.relatch n w).tariff = s.tariff ∧ (s.relatch n w).link = s.link := by
  cases w <;> simp [State.relatch, State.latchRate, State.latchMultiplier]

/-- What `State.balanceChanged` leaves as it was. -/
@[simp] theorem State.balanceChanged_frame (s : State) (a b c : Nat) :
    (s.balanceChanged a b c).lines = s.lines ∧ (s.balanceChanged a b c).policies = s.policies ∧
    (s.balanceChanged a b c).accounts = s.accounts ∧ (s.balanceChanged a b c).classes = s.classes ∧
    (s.balanceChanged a b c).messages = s.messages ∧ (s.balanceChanged a b c).waitQueue = s.waitQueue ∧
    (s.balanceChanged a b c).inputWait = s.inputWait ∧ (s.balanceChanged a b c).nextNumber = s.nextNumber ∧
    (s.balanceChanged a b c).bills = s.bills ∧ (s.balanceChanged a b c).draws = s.draws ∧
    (s.balanceChanged a b c).pending = s.pending ∧ (s.balanceChanged a b c).tariff = s.tariff ∧
    (s.balanceChanged a b c).link = s.link := by
  unfold State.balanceChanged
  repeat' (first | split | simp only [])
  all_goals simp

/-- What `State.roundSession` leaves as it was. -/
@[simp] theorem State.roundSession_frame (s : State) (n : Nat) :
    (s.roundSession n).lines = s.lines ∧ (s.roundSession n).policies = s.policies ∧
    (s.roundSession n).classes = s.classes ∧ (s.roundSession n).messages = s.messages ∧
    (s.roundSession n).waitQueue = s.waitQueue ∧ (s.roundSession n).inputWait = s.inputWait ∧
    (s.roundSession n).nextNumber = s.nextNumber ∧ (s.roundSession n).bills = s.bills ∧
    (s.roundSession n).draws = s.draws ∧ (s.roundSession n).pending = s.pending ∧
    (s.roundSession n).tariff = s.tariff ∧ (s.roundSession n).link = s.link := by
  unfold State.roundSession
  repeat' (first | split | simp only [])
  all_goals simp

/-- What `State.applyMinimum` leaves as it was. -/
@[simp] theorem State.applyMinimum_frame (s : State) (n : Nat) :
    (s.applyMinimum n).lines = s.lines ∧ (s.applyMinimum n).policies = s.policies ∧
    (s.applyMinimum n).classes = s.classes ∧ (s.applyMinimum n).messages = s.messages ∧
    (s.applyMinimum n).waitQueue = s.waitQueue ∧ (s.applyMinimum n).inputWait = s.inputWait ∧
    (s.applyMinimum n).nextNumber = s.nextNumber ∧ (s.applyMinimum n).bills = s.bills ∧
    (s.applyMinimum n).draws = s.draws ∧ (s.applyMinimum n).pending = s.pending ∧
    (s.applyMinimum n).tariff = s.tariff ∧ (s.applyMinimum n).link = s.link := by
  unfold State.applyMinimum
  repeat' (first | split | simp only [])
  all_goals simp

/-- What `State.finalize` leaves as it was. -/
@[simp] theorem State.finalize_frame (s : State) (n : Nat) :
    (s.finalize n).lines = s.lines ∧ (s.finalize n).policies = s.policies ∧ (s.finalize n).classes = s.classes ∧
    (s.finalize n).messages = s.messages ∧ (s.finalize n).waitQueue = s.waitQueue ∧
    (s.finalize n).inputWait = s.inputWait ∧ (s.finalize n).nextNumber = s.nextNumber ∧
    (s.finalize n).bills = s.bills ∧ (s.finalize n).draws = s.draws ∧ (s.finalize n).pending = s.pending ∧
    (s.finalize n).tariff = s.tariff ∧ (s.finalize n).link = s.link := by
  unfold State.finalize
  simp

/-! ## Admission, the wait queue and close -/

/-- What `State.admitLine` leaves as it was. -/
@[simp] theorem State.admitLine_frame (s : State) (p : Port) (a : Account) :
    (s.admitLine p a).policies = s.policies ∧ (s.admitLine p a).classes = s.classes ∧ (s.admitLine p a).messages = s.messages ∧
    (s.admitLine p a).inputWait = s.inputWait ∧ (s.admitLine p a).bills = s.bills ∧ (s.admitLine p a).draws = s.draws ∧
    (s.admitLine p a).pending = s.pending ∧ (s.admitLine p a).tariff.clockValid = s.tariff.clockValid ∧
    (s.admitLine p a).tariff.clock = s.tariff.clock ∧ (s.admitLine p a).tariff.active = s.tariff.active ∧
    (s.admitLine p a).tariff.standby = s.tariff.standby ∧ (s.admitLine p a).tariff.activePresent = s.tariff.activePresent ∧
    (s.admitLine p a).tariff.commit = s.tariff.commit ∧ (s.admitLine p a).tariff.period = s.tariff.period ∧
    (s.admitLine p a).tariff.steps = s.tariff.steps ∧ (s.admitLine p a).link.assembler = s.link.assembler ∧
    (s.admitLine p a).link.heldOrder = s.link.heldOrder ∧ (s.admitLine p a).link.replyPath = s.link.replyPath ∧
    (s.admitLine p a).link.sending = s.link.sending ∧ (s.admitLine p a).link.enables = s.link.enables ∧
    (s.admitLine p a).link.host = s.link.host ∧ (s.admitLine p a).link.timeoutRunning = s.link.timeoutRunning ∧
    (s.admitLine p a).link.downRemaining = s.link.downRemaining ∧ (s.admitLine p a).link.secondsDown = s.link.secondsDown ∧
    (s.admitLine p a).link.downExpired = s.link.downExpired ∧ (s.admitLine p a).link.limits = s.link.limits := by
  unfold State.admitLine
  simp

/-- What `State.judgeHead` leaves as it was. -/
@[simp] theorem State.judgeHead_frame (s : State) (p : Port) :
    (s.judgeHead p).policies = s.policies ∧ (s.judgeHead p).classes = s.classes ∧
    (s.judgeHead p).messages = s.messages ∧ (s.judgeHead p).bills = s.bills ∧ (s.judgeHead p).draws = s.draws ∧
    (s.judgeHead p).pending = s.pending ∧ (s.judgeHead p).tariff.clockValid = s.tariff.clockValid ∧
    (s.judgeHead p).tariff.clock = s.tariff.clock ∧ (s.judgeHead p).tariff.active = s.tariff.active ∧
    (s.judgeHead p).tariff.standby = s.tariff.standby ∧
    (s.judgeHead p).tariff.activePresent = s.tariff.activePresent ∧
    (s.judgeHead p).tariff.commit = s.tariff.commit ∧ (s.judgeHead p).tariff.period = s.tariff.period ∧
    (s.judgeHead p).tariff.steps = s.tariff.steps ∧ (s.judgeHead p).link.assembler = s.link.assembler ∧
    (s.judgeHead p).link.heldOrder = s.link.heldOrder ∧ (s.judgeHead p).link.replyPath = s.link.replyPath ∧
    (s.judgeHead p).link.sending = s.link.sending ∧ (s.judgeHead p).link.enables = s.link.enables ∧
    (s.judgeHead p).link.host = s.link.host ∧ (s.judgeHead p).link.timeoutRunning = s.link.timeoutRunning ∧
    (s.judgeHead p).link.downRemaining = s.link.downRemaining ∧
    (s.judgeHead p).link.secondsDown = s.link.secondsDown ∧ (s.judgeHead p).link.downExpired = s.link.downExpired ∧
    (s.judgeHead p).link.limits = s.link.limits := by
  unfold State.judgeHead
  repeat' (first | split | simp only [])
  all_goals simp

/-- What `State.evaluateQueue` leaves as it was. -/
@[simp] theorem State.evaluateQueue_frame (k : Nat) (s : State) :
    (State.evaluateQueue k s).policies = s.policies ∧ (State.evaluateQueue k s).classes = s.classes ∧
    (State.evaluateQueue k s).messages = s.messages ∧ (State.evaluateQueue k s).bills = s.bills ∧
    (State.evaluateQueue k s).draws = s.draws ∧ (State.evaluateQueue k s).pending = s.pending ∧
    (State.evaluateQueue k s).tariff.clockValid = s.tariff.clockValid ∧
    (State.evaluateQueue k s).tariff.clock = s.tariff.clock ∧
    (State.evaluateQueue k s).tariff.active = s.tariff.active ∧
    (State.evaluateQueue k s).tariff.standby = s.tariff.standby ∧
    (State.evaluateQueue k s).tariff.activePresent = s.tariff.activePresent ∧
    (State.evaluateQueue k s).tariff.commit = s.tariff.commit ∧
    (State.evaluateQueue k s).tariff.period = s.tariff.period ∧
    (State.evaluateQueue k s).tariff.steps = s.tariff.steps ∧
    (State.evaluateQueue k s).link.assembler = s.link.assembler ∧
    (State.evaluateQueue k s).link.heldOrder = s.link.heldOrder ∧
    (State.evaluateQueue k s).link.replyPath = s.link.replyPath ∧
    (State.evaluateQueue k s).link.sending = s.link.sending ∧
    (State.evaluateQueue k s).link.enables = s.link.enables ∧ (State.evaluateQueue k s).link.host = s.link.host ∧
    (State.evaluateQueue k s).link.timeoutRunning = s.link.timeoutRunning ∧
    (State.evaluateQueue k s).link.downRemaining = s.link.downRemaining ∧
    (State.evaluateQueue k s).link.secondsDown = s.link.secondsDown ∧
    (State.evaluateQueue k s).link.downExpired = s.link.downExpired ∧
    (State.evaluateQueue k s).link.limits = s.link.limits := by
  induction k generalizing s with
  | zero => simp [State.evaluateQueue]
  | succ k ih =>
    unfold State.evaluateQueue
    repeat' (first | split | simp only [])
    all_goals simp [ih]

/-- What `State.evaluate` leaves as it was. -/
@[simp] theorem State.evaluate_frame (s : State) :
    (s.evaluate).policies = s.policies ∧ (s.evaluate).classes = s.classes ∧ (s.evaluate).messages = s.messages ∧
    (s.evaluate).bills = s.bills ∧ (s.evaluate).draws = s.draws ∧ (s.evaluate).pending = s.pending ∧
    (s.evaluate).tariff.clockValid = s.tariff.clockValid ∧ (s.evaluate).tariff.clock = s.tariff.clock ∧
    (s.evaluate).tariff.active = s.tariff.active ∧ (s.evaluate).tariff.standby = s.tariff.standby ∧
    (s.evaluate).tariff.activePresent = s.tariff.activePresent ∧ (s.evaluate).tariff.commit = s.tariff.commit ∧
    (s.evaluate).tariff.period = s.tariff.period ∧ (s.evaluate).tariff.steps = s.tariff.steps ∧
    (s.evaluate).link.assembler = s.link.assembler ∧ (s.evaluate).link.heldOrder = s.link.heldOrder ∧
    (s.evaluate).link.replyPath = s.link.replyPath ∧ (s.evaluate).link.sending = s.link.sending ∧
    (s.evaluate).link.enables = s.link.enables ∧ (s.evaluate).link.host = s.link.host ∧
    (s.evaluate).link.timeoutRunning = s.link.timeoutRunning ∧
    (s.evaluate).link.downRemaining = s.link.downRemaining ∧ (s.evaluate).link.secondsDown = s.link.secondsDown ∧
    (s.evaluate).link.downExpired = s.link.downExpired ∧ (s.evaluate).link.limits = s.link.limits := by
  unfold State.evaluate
  simp

/-- What `State.addBill` leaves as it was. -/
@[simp] theorem State.addBill_frame (s : State) (b : Bill) (q : Bool) :
    (s.addBill b q).lines = s.lines ∧ (s.addBill b q).policies = s.policies ∧
    (s.addBill b q).accounts = s.accounts ∧ (s.addBill b q).classes = s.classes ∧
    (s.addBill b q).messages = s.messages ∧ (s.addBill b q).waitQueue = s.waitQueue ∧
    (s.addBill b q).inputWait = s.inputWait ∧ (s.addBill b q).sessions = s.sessions ∧
    (s.addBill b q).nextNumber = s.nextNumber ∧ (s.addBill b q).draws = s.draws ∧
    (s.addBill b q).pending = s.pending ∧ (s.addBill b q).tariff = s.tariff ∧
    (s.addBill b q).link.assembler = s.link.assembler ∧ (s.addBill b q).link.heldOrder = s.link.heldOrder ∧
    (s.addBill b q).link.replyPath = s.link.replyPath ∧ (s.addBill b q).link.sending = s.link.sending ∧
    (s.addBill b q).link.enables = s.link.enables ∧ (s.addBill b q).link.host = s.link.host ∧
    (s.addBill b q).link.timeoutRunning = s.link.timeoutRunning ∧
    (s.addBill b q).link.downRemaining = s.link.downRemaining ∧
    (s.addBill b q).link.secondsDown = s.link.secondsDown ∧ (s.addBill b q).link.downExpired = s.link.downExpired ∧
    (s.addBill b q).link.limits = s.link.limits := by
  unfold State.addBill
  repeat' (first | split | simp only [])
  all_goals simp

/-- What `State.freeSession` leaves as it was. -/
@[simp] theorem State.freeSession_frame (s : State) (n : Nat) (q : Bool) :
    (s.freeSession n q).policies = s.policies ∧ (s.freeSession n q).accounts = s.accounts ∧
    (s.freeSession n q).classes = s.classes ∧ (s.freeSession n q).messages = s.messages ∧
    (s.freeSession n q).waitQueue = s.waitQueue ∧ (s.freeSession n q).nextNumber = s.nextNumber ∧
    (s.freeSession n q).bills = s.bills ∧ (s.freeSession n q).draws = s.draws ∧
    (s.freeSession n q).pending = s.pending ∧ (s.freeSession n q).tariff.clockValid = s.tariff.clockValid ∧
    (s.freeSession n q).tariff.clock = s.tariff.clock ∧ (s.freeSession n q).tariff.active = s.tariff.active ∧
    (s.freeSession n q).tariff.standby = s.tariff.standby ∧
    (s.freeSession n q).tariff.activePresent = s.tariff.activePresent ∧
    (s.freeSession n q).tariff.commit = s.tariff.commit ∧ (s.freeSession n q).tariff.period = s.tariff.period ∧
    (s.freeSession n q).tariff.steps = s.tariff.steps ∧ (s.freeSession n q).link.assembler = s.link.assembler ∧
    (s.freeSession n q).link.heldOrder = s.link.heldOrder ∧ (s.freeSession n q).link.replyPath = s.link.replyPath ∧
    (s.freeSession n q).link.sending = s.link.sending ∧ (s.freeSession n q).link.enables = s.link.enables ∧
    (s.freeSession n q).link.host = s.link.host ∧ (s.freeSession n q).link.timeoutRunning = s.link.timeoutRunning ∧
    (s.freeSession n q).link.downRemaining = s.link.downRemaining ∧
    (s.freeSession n q).link.secondsDown = s.link.secondsDown ∧
    (s.freeSession n q).link.downExpired = s.link.downExpired ∧ (s.freeSession n q).link.limits = s.link.limits := by
  unfold State.freeSession
  repeat' (first | split | simp only [])
  all_goals simp

/-- What `State.closeSession` leaves as it was. -/
@[simp] theorem State.closeSession_frame (s : State) (n : Nat) (c : Cause) (q : Bool) :
    (s.closeSession n c q).policies = s.policies ∧ (s.closeSession n c q).classes = s.classes ∧
    (s.closeSession n c q).messages = s.messages ∧ (s.closeSession n c q).draws = s.draws ∧
    (s.closeSession n c q).pending = s.pending ∧ (s.closeSession n c q).tariff.clockValid = s.tariff.clockValid ∧
    (s.closeSession n c q).tariff.clock = s.tariff.clock ∧ (s.closeSession n c q).tariff.active = s.tariff.active ∧
    (s.closeSession n c q).tariff.standby = s.tariff.standby ∧
    (s.closeSession n c q).tariff.activePresent = s.tariff.activePresent ∧
    (s.closeSession n c q).tariff.commit = s.tariff.commit ∧
    (s.closeSession n c q).tariff.period = s.tariff.period ∧ (s.closeSession n c q).tariff.steps = s.tariff.steps ∧
    (s.closeSession n c q).link.assembler = s.link.assembler ∧
    (s.closeSession n c q).link.heldOrder = s.link.heldOrder ∧
    (s.closeSession n c q).link.replyPath = s.link.replyPath ∧
    (s.closeSession n c q).link.sending = s.link.sending ∧ (s.closeSession n c q).link.enables = s.link.enables ∧
    (s.closeSession n c q).link.host = s.link.host ∧
    (s.closeSession n c q).link.timeoutRunning = s.link.timeoutRunning ∧
    (s.closeSession n c q).link.downRemaining = s.link.downRemaining ∧
    (s.closeSession n c q).link.secondsDown = s.link.secondsDown ∧
    (s.closeSession n c q).link.downExpired = s.link.downExpired ∧
    (s.closeSession n c q).link.limits = s.link.limits := by
  unfold State.closeSession
  repeat' (first | split | simp only [])
  all_goals simp

/-- What `State.closeAction` leaves as it was. -/
@[simp] theorem State.closeAction_frame (s : State) (o : Option Port) (c : Cause) :
    (s.closeAction o c).policies = s.policies ∧ (s.closeAction o c).accounts = s.accounts ∧
    (s.closeAction o c).classes = s.classes ∧ (s.closeAction o c).messages = s.messages ∧
    (s.closeAction o c).sessions = s.sessions ∧ (s.closeAction o c).nextNumber = s.nextNumber ∧
    (s.closeAction o c).bills = s.bills ∧ (s.closeAction o c).draws = s.draws ∧
    (s.closeAction o c).pending = s.pending ∧ (s.closeAction o c).tariff = s.tariff ∧
    (s.closeAction o c).link.assembler = s.link.assembler ∧ (s.closeAction o c).link.heldOrder = s.link.heldOrder ∧
    (s.closeAction o c).link.replyPath = s.link.replyPath ∧ (s.closeAction o c).link.sending = s.link.sending ∧
    (s.closeAction o c).link.enables = s.link.enables ∧ (s.closeAction o c).link.host = s.link.host ∧
    (s.closeAction o c).link.timeoutRunning = s.link.timeoutRunning ∧
    (s.closeAction o c).link.downRemaining = s.link.downRemaining ∧
    (s.closeAction o c).link.secondsDown = s.link.secondsDown ∧
    (s.closeAction o c).link.downExpired = s.link.downExpired ∧ (s.closeAction o c).link.limits = s.link.limits := by
  unfold State.closeAction
  repeat' (first | split | simp only [])
  all_goals simp

/-- What `State.closeAndAct` leaves as it was. -/
@[simp] theorem State.closeAndAct_frame (s : State) (n : Nat) (c : Cause) :
    (s.closeAndAct n c).policies = s.policies ∧ (s.closeAndAct n c).classes = s.classes ∧
    (s.closeAndAct n c).messages = s.messages ∧ (s.closeAndAct n c).draws = s.draws ∧
    (s.closeAndAct n c).pending = s.pending ∧ (s.closeAndAct n c).tariff.clockValid = s.tariff.clockValid ∧
    (s.closeAndAct n c).tariff.clock = s.tariff.clock ∧ (s.closeAndAct n c).tariff.active = s.tariff.active ∧
    (s.closeAndAct n c).tariff.standby = s.tariff.standby ∧
    (s.closeAndAct n c).tariff.activePresent = s.tariff.activePresent ∧
    (s.closeAndAct n c).tariff.commit = s.tariff.commit ∧ (s.closeAndAct n c).tariff.period = s.tariff.period ∧
    (s.closeAndAct n c).tariff.steps = s.tariff.steps ∧ (s.closeAndAct n c).link.assembler = s.link.assembler ∧
    (s.closeAndAct n c).link.heldOrder = s.link.heldOrder ∧ (s.closeAndAct n c).link.replyPath = s.link.replyPath ∧
    (s.closeAndAct n c).link.sending = s.link.sending ∧ (s.closeAndAct n c).link.enables = s.link.enables ∧
    (s.closeAndAct n c).link.host = s.link.host ∧ (s.closeAndAct n c).link.timeoutRunning = s.link.timeoutRunning ∧
    (s.closeAndAct n c).link.downRemaining = s.link.downRemaining ∧
    (s.closeAndAct n c).link.secondsDown = s.link.secondsDown ∧
    (s.closeAndAct n c).link.downExpired = s.link.downExpired ∧ (s.closeAndAct n c).link.limits = s.link.limits := by
  unfold State.closeAndAct
  simp

/-- What `State.loseLine` leaves as it was. -/
@[simp] theorem State.loseLine_frame (s : State) (n : Nat) (p : Port) (w : HeldReason) :
    (s.loseLine n p w).policies = s.policies ∧ (s.loseLine n p w).classes = s.classes ∧
    (s.loseLine n p w).messages = s.messages ∧ (s.loseLine n p w).draws = s.draws ∧
    (s.loseLine n p w).pending = s.pending ∧ (s.loseLine n p w).tariff.clockValid = s.tariff.clockValid ∧
    (s.loseLine n p w).tariff.clock = s.tariff.clock ∧ (s.loseLine n p w).tariff.active = s.tariff.active ∧
    (s.loseLine n p w).tariff.standby = s.tariff.standby ∧
    (s.loseLine n p w).tariff.activePresent = s.tariff.activePresent ∧
    (s.loseLine n p w).tariff.commit = s.tariff.commit ∧ (s.loseLine n p w).tariff.period = s.tariff.period ∧
    (s.loseLine n p w).tariff.steps = s.tariff.steps ∧ (s.loseLine n p w).link.assembler = s.link.assembler ∧
    (s.loseLine n p w).link.heldOrder = s.link.heldOrder ∧ (s.loseLine n p w).link.replyPath = s.link.replyPath ∧
    (s.loseLine n p w).link.sending = s.link.sending ∧ (s.loseLine n p w).link.enables = s.link.enables ∧
    (s.loseLine n p w).link.host = s.link.host ∧ (s.loseLine n p w).link.timeoutRunning = s.link.timeoutRunning ∧
    (s.loseLine n p w).link.downRemaining = s.link.downRemaining ∧
    (s.loseLine n p w).link.secondsDown = s.link.secondsDown ∧
    (s.loseLine n p w).link.downExpired = s.link.downExpired ∧ (s.loseLine n p w).link.limits = s.link.limits := by
  unfold State.loseLine
  repeat' (first | split | simp only [])
  all_goals simp

/-- What `State.tellHolder` leaves as it was. -/
@[simp] theorem State.tellHolder_frame (s : State) (p : Port) (w : HeldReason) :
    (s.tellHolder p w).policies = s.policies ∧ (s.tellHolder p w).classes = s.classes ∧
    (s.tellHolder p w).messages = s.messages ∧ (s.tellHolder p w).draws = s.draws ∧
    (s.tellHolder p w).pending = s.pending ∧ (s.tellHolder p w).tariff.clockValid = s.tariff.clockValid ∧
    (s.tellHolder p w).tariff.clock = s.tariff.clock ∧ (s.tellHolder p w).tariff.active = s.tariff.active ∧
    (s.tellHolder p w).tariff.standby = s.tariff.standby ∧
    (s.tellHolder p w).tariff.activePresent = s.tariff.activePresent ∧
    (s.tellHolder p w).tariff.commit = s.tariff.commit ∧ (s.tellHolder p w).tariff.period = s.tariff.period ∧
    (s.tellHolder p w).tariff.steps = s.tariff.steps ∧ (s.tellHolder p w).link.assembler = s.link.assembler ∧
    (s.tellHolder p w).link.heldOrder = s.link.heldOrder ∧ (s.tellHolder p w).link.replyPath = s.link.replyPath ∧
    (s.tellHolder p w).link.sending = s.link.sending ∧ (s.tellHolder p w).link.enables = s.link.enables ∧
    (s.tellHolder p w).link.host = s.link.host ∧ (s.tellHolder p w).link.timeoutRunning = s.link.timeoutRunning ∧
    (s.tellHolder p w).link.downRemaining = s.link.downRemaining ∧
    (s.tellHolder p w).link.secondsDown = s.link.secondsDown ∧
    (s.tellHolder p w).link.downExpired = s.link.downExpired ∧ (s.tellHolder p w).link.limits = s.link.limits := by
  unfold State.tellHolder
  repeat' (first | split | simp only [])
  all_goals simp

/-! ## Faults -/

/-- What `State.judgeFault` leaves as it was. -/
@[simp] theorem State.judgeFault_frame (s : State) (p : Port) (k : FaultKind) :
    ((s.judgeFault p k).1).policies = s.policies ∧ ((s.judgeFault p k).1).accounts = s.accounts ∧
    ((s.judgeFault p k).1).classes = s.classes ∧ ((s.judgeFault p k).1).messages = s.messages ∧
    ((s.judgeFault p k).1).waitQueue = s.waitQueue ∧ ((s.judgeFault p k).1).inputWait = s.inputWait ∧
    ((s.judgeFault p k).1).sessions = s.sessions ∧ ((s.judgeFault p k).1).nextNumber = s.nextNumber ∧
    ((s.judgeFault p k).1).bills = s.bills ∧ ((s.judgeFault p k).1).draws = s.draws ∧
    ((s.judgeFault p k).1).pending = s.pending ∧ ((s.judgeFault p k).1).tariff = s.tariff ∧
    ((s.judgeFault p k).1).link.assembler = s.link.assembler ∧
    ((s.judgeFault p k).1).link.heldOrder = s.link.heldOrder ∧
    ((s.judgeFault p k).1).link.replyPath = s.link.replyPath ∧
    ((s.judgeFault p k).1).link.sending = s.link.sending ∧ ((s.judgeFault p k).1).link.enables = s.link.enables ∧
    ((s.judgeFault p k).1).link.host = s.link.host ∧
    ((s.judgeFault p k).1).link.timeoutRunning = s.link.timeoutRunning ∧
    ((s.judgeFault p k).1).link.downRemaining = s.link.downRemaining ∧
    ((s.judgeFault p k).1).link.secondsDown = s.link.secondsDown ∧
    ((s.judgeFault p k).1).link.downExpired = s.link.downExpired ∧
    ((s.judgeFault p k).1).link.limits = s.link.limits := by
  unfold State.judgeFault
  repeat' (first | split | simp only [])
  all_goals simp

/-- What `State.takeFault` leaves as it was. -/
@[simp] theorem State.takeFault_frame (s : State) (p : Port) (k : FaultKind) :
    (s.takeFault p k).policies = s.policies ∧ (s.takeFault p k).classes = s.classes ∧
    (s.takeFault p k).messages = s.messages ∧ (s.takeFault p k).draws = s.draws ∧
    (s.takeFault p k).pending = s.pending ∧ (s.takeFault p k).tariff.clockValid = s.tariff.clockValid ∧
    (s.takeFault p k).tariff.clock = s.tariff.clock ∧ (s.takeFault p k).tariff.active = s.tariff.active ∧
    (s.takeFault p k).tariff.standby = s.tariff.standby ∧
    (s.takeFault p k).tariff.activePresent = s.tariff.activePresent ∧
    (s.takeFault p k).tariff.commit = s.tariff.commit ∧ (s.takeFault p k).tariff.period = s.tariff.period ∧
    (s.takeFault p k).tariff.steps = s.tariff.steps ∧ (s.takeFault p k).link.assembler = s.link.assembler ∧
    (s.takeFault p k).link.heldOrder = s.link.heldOrder ∧ (s.takeFault p k).link.replyPath = s.link.replyPath ∧
    (s.takeFault p k).link.sending = s.link.sending ∧ (s.takeFault p k).link.enables = s.link.enables ∧
    (s.takeFault p k).link.host = s.link.host ∧ (s.takeFault p k).link.timeoutRunning = s.link.timeoutRunning ∧
    (s.takeFault p k).link.downRemaining = s.link.downRemaining ∧
    (s.takeFault p k).link.secondsDown = s.link.secondsDown ∧
    (s.takeFault p k).link.downExpired = s.link.downExpired ∧ (s.takeFault p k).link.limits = s.link.limits := by
  unfold State.takeFault
  repeat' (first | split | simp only [])
  all_goals simp

/-- What `State.takeRingStuck` leaves as it was. -/
@[simp] theorem State.takeRingStuck_frame (s : State) (p : Port) :
    (s.takeRingStuck p).policies = s.policies ∧ (s.takeRingStuck p).accounts = s.accounts ∧
    (s.takeRingStuck p).classes = s.classes ∧ (s.takeRingStuck p).messages = s.messages ∧
    (s.takeRingStuck p).waitQueue = s.waitQueue ∧ (s.takeRingStuck p).inputWait = s.inputWait ∧
    (s.takeRingStuck p).sessions = s.sessions ∧ (s.takeRingStuck p).nextNumber = s.nextNumber ∧
    (s.takeRingStuck p).bills = s.bills ∧ (s.takeRingStuck p).draws = s.draws ∧
    (s.takeRingStuck p).pending = s.pending ∧ (s.takeRingStuck p).tariff = s.tariff ∧
    (s.takeRingStuck p).link.assembler = s.link.assembler ∧ (s.takeRingStuck p).link.heldOrder = s.link.heldOrder ∧
    (s.takeRingStuck p).link.replyPath = s.link.replyPath ∧ (s.takeRingStuck p).link.sending = s.link.sending ∧
    (s.takeRingStuck p).link.enables = s.link.enables ∧ (s.takeRingStuck p).link.host = s.link.host ∧
    (s.takeRingStuck p).link.timeoutRunning = s.link.timeoutRunning ∧
    (s.takeRingStuck p).link.downRemaining = s.link.downRemaining ∧
    (s.takeRingStuck p).link.secondsDown = s.link.secondsDown ∧
    (s.takeRingStuck p).link.downExpired = s.link.downExpired ∧ (s.takeRingStuck p).link.limits = s.link.limits := by
  unfold State.takeRingStuck
  repeat' (first | split | simp only [])
  all_goals simp

/-- What `State.countError` leaves as it was. -/
@[simp] theorem State.countError_frame (s : State) (p : Port) :
    ((s.countError p).1).policies = s.policies ∧ ((s.countError p).1).classes = s.classes ∧
    ((s.countError p).1).messages = s.messages ∧ ((s.countError p).1).draws = s.draws ∧
    ((s.countError p).1).pending = s.pending ∧ ((s.countError p).1).tariff.clockValid = s.tariff.clockValid ∧
    ((s.countError p).1).tariff.clock = s.tariff.clock ∧ ((s.countError p).1).tariff.active = s.tariff.active ∧
    ((s.countError p).1).tariff.standby = s.tariff.standby ∧
    ((s.countError p).1).tariff.activePresent = s.tariff.activePresent ∧
    ((s.countError p).1).tariff.commit = s.tariff.commit ∧ ((s.countError p).1).tariff.period = s.tariff.period ∧
    ((s.countError p).1).tariff.steps = s.tariff.steps ∧ ((s.countError p).1).link.assembler = s.link.assembler ∧
    ((s.countError p).1).link.heldOrder = s.link.heldOrder ∧
    ((s.countError p).1).link.replyPath = s.link.replyPath ∧ ((s.countError p).1).link.sending = s.link.sending ∧
    ((s.countError p).1).link.enables = s.link.enables ∧ ((s.countError p).1).link.host = s.link.host ∧
    ((s.countError p).1).link.timeoutRunning = s.link.timeoutRunning ∧
    ((s.countError p).1).link.downRemaining = s.link.downRemaining ∧
    ((s.countError p).1).link.secondsDown = s.link.secondsDown ∧
    ((s.countError p).1).link.downExpired = s.link.downExpired ∧ ((s.countError p).1).link.limits = s.link.limits := by
  unfold State.countError
  repeat' (first | split | simp only [])
  all_goals simp

/-! ## Sign-on -/

/-- What `State.applyLockPolicy` leaves as it was. -/
@[simp] theorem State.applyLockPolicy_frame (s : State) (p : Port) (a : Account) (n : Nat) :
    (s.applyLockPolicy p a n).lines = s.lines ∧ (s.applyLockPolicy p a n).policies = s.policies ∧
    (s.applyLockPolicy p a n).classes = s.classes ∧ (s.applyLockPolicy p a n).messages = s.messages ∧
    (s.applyLockPolicy p a n).waitQueue = s.waitQueue ∧ (s.applyLockPolicy p a n).inputWait = s.inputWait ∧
    (s.applyLockPolicy p a n).sessions = s.sessions ∧ (s.applyLockPolicy p a n).nextNumber = s.nextNumber ∧
    (s.applyLockPolicy p a n).bills = s.bills ∧ (s.applyLockPolicy p a n).draws = s.draws ∧
    (s.applyLockPolicy p a n).pending = s.pending ∧ (s.applyLockPolicy p a n).tariff = s.tariff ∧
    (s.applyLockPolicy p a n).link.assembler = s.link.assembler ∧
    (s.applyLockPolicy p a n).link.heldOrder = s.link.heldOrder ∧
    (s.applyLockPolicy p a n).link.replyPath = s.link.replyPath ∧
    (s.applyLockPolicy p a n).link.sending = s.link.sending ∧
    (s.applyLockPolicy p a n).link.enables = s.link.enables ∧ (s.applyLockPolicy p a n).link.host = s.link.host ∧
    (s.applyLockPolicy p a n).link.timeoutRunning = s.link.timeoutRunning ∧
    (s.applyLockPolicy p a n).link.downRemaining = s.link.downRemaining ∧
    (s.applyLockPolicy p a n).link.secondsDown = s.link.secondsDown ∧
    (s.applyLockPolicy p a n).link.downExpired = s.link.downExpired ∧
    (s.applyLockPolicy p a n).link.limits = s.link.limits := by
  unfold State.applyLockPolicy
  repeat' (first | split | simp only [])
  all_goals simp

/-- What `State.countFailure` leaves as it was. -/
@[simp] theorem State.countFailure_frame (s : State) (p : Port) (a : Account) :
    (s.countFailure p a).lines = s.lines ∧ (s.countFailure p a).policies = s.policies ∧
    (s.countFailure p a).classes = s.classes ∧ (s.countFailure p a).messages = s.messages ∧
    (s.countFailure p a).waitQueue = s.waitQueue ∧ (s.countFailure p a).inputWait = s.inputWait ∧
    (s.countFailure p a).sessions = s.sessions ∧ (s.countFailure p a).nextNumber = s.nextNumber ∧
    (s.countFailure p a).bills = s.bills ∧ (s.countFailure p a).draws = s.draws ∧
    (s.countFailure p a).pending = s.pending ∧ (s.countFailure p a).tariff = s.tariff ∧
    (s.countFailure p a).link.assembler = s.link.assembler ∧
    (s.countFailure p a).link.heldOrder = s.link.heldOrder ∧
    (s.countFailure p a).link.replyPath = s.link.replyPath ∧ (s.countFailure p a).link.sending = s.link.sending ∧
    (s.countFailure p a).link.enables = s.link.enables ∧ (s.countFailure p a).link.host = s.link.host ∧
    (s.countFailure p a).link.timeoutRunning = s.link.timeoutRunning ∧
    (s.countFailure p a).link.downRemaining = s.link.downRemaining ∧
    (s.countFailure p a).link.secondsDown = s.link.secondsDown ∧
    (s.countFailure p a).link.downExpired = s.link.downExpired ∧ (s.countFailure p a).link.limits = s.link.limits := by
  unfold State.countFailure
  repeat' (first | split | simp only [])
  all_goals simp

/-- What `State.refuseSignOn` leaves as it was. -/
@[simp] theorem State.refuseSignOn_frame (s : State) (p : Port) (d : Dialogue) (m : Slot) :
    (s.refuseSignOn p d m).policies = s.policies ∧ (s.refuseSignOn p d m).accounts = s.accounts ∧
    (s.refuseSignOn p d m).classes = s.classes ∧ (s.refuseSignOn p d m).messages = s.messages ∧
    (s.refuseSignOn p d m).sessions = s.sessions ∧ (s.refuseSignOn p d m).nextNumber = s.nextNumber ∧
    (s.refuseSignOn p d m).bills = s.bills ∧ (s.refuseSignOn p d m).draws = s.draws ∧
    (s.refuseSignOn p d m).pending = s.pending ∧ (s.refuseSignOn p d m).tariff = s.tariff ∧
    (s.refuseSignOn p d m).link.assembler = s.link.assembler ∧
    (s.refuseSignOn p d m).link.heldOrder = s.link.heldOrder ∧
    (s.refuseSignOn p d m).link.replyPath = s.link.replyPath ∧
    (s.refuseSignOn p d m).link.sending = s.link.sending ∧ (s.refuseSignOn p d m).link.enables = s.link.enables ∧
    (s.refuseSignOn p d m).link.host = s.link.host ∧
    (s.refuseSignOn p d m).link.timeoutRunning = s.link.timeoutRunning ∧
    (s.refuseSignOn p d m).link.downRemaining = s.link.downRemaining ∧
    (s.refuseSignOn p d m).link.secondsDown = s.link.secondsDown ∧
    (s.refuseSignOn p d m).link.downExpired = s.link.downExpired ∧
    (s.refuseSignOn p d m).link.limits = s.link.limits := by
  unfold State.refuseSignOn
  repeat' (first | split | simp only [])
  all_goals simp

/-- What `State.reattach` leaves as it was. -/
@[simp] theorem State.reattach_frame (s : State) (p : Port) (x : Session) :
    (s.reattach p x).policies = s.policies ∧ (s.reattach p x).accounts = s.accounts ∧
    (s.reattach p x).classes = s.classes ∧ (s.reattach p x).messages = s.messages ∧
    (s.reattach p x).waitQueue = s.waitQueue ∧ (s.reattach p x).inputWait = s.inputWait ∧
    (s.reattach p x).nextNumber = s.nextNumber ∧ (s.reattach p x).bills = s.bills ∧
    (s.reattach p x).draws = s.draws ∧ (s.reattach p x).pending = s.pending ∧ (s.reattach p x).tariff = s.tariff ∧
    (s.reattach p x).link.assembler = s.link.assembler ∧ (s.reattach p x).link.heldOrder = s.link.heldOrder ∧
    (s.reattach p x).link.replyPath = s.link.replyPath ∧ (s.reattach p x).link.sending = s.link.sending ∧
    (s.reattach p x).link.enables = s.link.enables ∧ (s.reattach p x).link.host = s.link.host ∧
    (s.reattach p x).link.timeoutRunning = s.link.timeoutRunning ∧
    (s.reattach p x).link.downRemaining = s.link.downRemaining ∧
    (s.reattach p x).link.secondsDown = s.link.secondsDown ∧
    (s.reattach p x).link.downExpired = s.link.downExpired ∧ (s.reattach p x).link.limits = s.link.limits := by
  unfold State.reattach
  simp

/-- What `State.enterQueue` leaves as it was. -/
@[simp] theorem State.enterQueue_frame (s : State) (p : Port) (d : Dialogue) (a : Nat) :
    (s.enterQueue p d a).policies = s.policies ∧ (s.enterQueue p d a).accounts = s.accounts ∧
    (s.enterQueue p d a).classes = s.classes ∧ (s.enterQueue p d a).messages = s.messages ∧
    (s.enterQueue p d a).inputWait = s.inputWait ∧ (s.enterQueue p d a).sessions = s.sessions ∧
    (s.enterQueue p d a).nextNumber = s.nextNumber ∧ (s.enterQueue p d a).bills = s.bills ∧
    (s.enterQueue p d a).draws = s.draws ∧ (s.enterQueue p d a).pending = s.pending ∧
    (s.enterQueue p d a).tariff = s.tariff ∧ (s.enterQueue p d a).link = s.link := by
  unfold State.enterQueue
  simp

/-- What `State.capacityChecks` leaves as it was. -/
@[simp] theorem State.capacityChecks_frame (s : State) (p : Port) (d : Dialogue) (a : Account) :
    (s.capacityChecks p d a).policies = s.policies ∧ (s.capacityChecks p d a).classes = s.classes ∧
    (s.capacityChecks p d a).messages = s.messages ∧ (s.capacityChecks p d a).bills = s.bills ∧
    (s.capacityChecks p d a).draws = s.draws ∧ (s.capacityChecks p d a).pending = s.pending ∧
    (s.capacityChecks p d a).tariff.clockValid = s.tariff.clockValid ∧
    (s.capacityChecks p d a).tariff.clock = s.tariff.clock ∧
    (s.capacityChecks p d a).tariff.active = s.tariff.active ∧
    (s.capacityChecks p d a).tariff.standby = s.tariff.standby ∧
    (s.capacityChecks p d a).tariff.activePresent = s.tariff.activePresent ∧
    (s.capacityChecks p d a).tariff.commit = s.tariff.commit ∧
    (s.capacityChecks p d a).tariff.period = s.tariff.period ∧
    (s.capacityChecks p d a).tariff.steps = s.tariff.steps ∧
    (s.capacityChecks p d a).link.assembler = s.link.assembler ∧
    (s.capacityChecks p d a).link.heldOrder = s.link.heldOrder ∧
    (s.capacityChecks p d a).link.replyPath = s.link.replyPath ∧
    (s.capacityChecks p d a).link.sending = s.link.sending ∧
    (s.capacityChecks p d a).link.enables = s.link.enables ∧ (s.capacityChecks p d a).link.host = s.link.host ∧
    (s.capacityChecks p d a).link.timeoutRunning = s.link.timeoutRunning ∧
    (s.capacityChecks p d a).link.downRemaining = s.link.downRemaining ∧
    (s.capacityChecks p d a).link.secondsDown = s.link.secondsDown ∧
    (s.capacityChecks p d a).link.downExpired = s.link.downExpired ∧
    (s.capacityChecks p d a).link.limits = s.link.limits := by
  unfold State.capacityChecks
  repeat' (first | split | simp only [])
  all_goals simp

/-- What `State.accountChecks` leaves as it was. -/
@[simp] theorem State.accountChecks_frame (s : State) (p : Port) (d : Dialogue) (a : Account) :
    (s.accountChecks p d a).policies = s.policies ∧ (s.accountChecks p d a).classes = s.classes ∧
    (s.accountChecks p d a).messages = s.messages ∧ (s.accountChecks p d a).bills = s.bills ∧
    (s.accountChecks p d a).draws = s.draws ∧ (s.accountChecks p d a).pending = s.pending ∧
    (s.accountChecks p d a).tariff.clockValid = s.tariff.clockValid ∧
    (s.accountChecks p d a).tariff.clock = s.tariff.clock ∧
    (s.accountChecks p d a).tariff.active = s.tariff.active ∧
    (s.accountChecks p d a).tariff.standby = s.tariff.standby ∧
    (s.accountChecks p d a).tariff.activePresent = s.tariff.activePresent ∧
    (s.accountChecks p d a).tariff.commit = s.tariff.commit ∧
    (s.accountChecks p d a).tariff.period = s.tariff.period ∧
    (s.accountChecks p d a).tariff.steps = s.tariff.steps ∧
    (s.accountChecks p d a).link.assembler = s.link.assembler ∧
    (s.accountChecks p d a).link.heldOrder = s.link.heldOrder ∧
    (s.accountChecks p d a).link.replyPath = s.link.replyPath ∧
    (s.accountChecks p d a).link.sending = s.link.sending ∧ (s.accountChecks p d a).link.enables = s.link.enables ∧
    (s.accountChecks p d a).link.host = s.link.host ∧
    (s.accountChecks p d a).link.timeoutRunning = s.link.timeoutRunning ∧
    (s.accountChecks p d a).link.downRemaining = s.link.downRemaining ∧
    (s.accountChecks p d a).link.secondsDown = s.link.secondsDown ∧
    (s.accountChecks p d a).link.downExpired = s.link.downExpired ∧
    (s.accountChecks p d a).link.limits = s.link.limits := by
  unfold State.accountChecks
  repeat' (first | split | simp only [])
  all_goals simp

/-- What `State.judgeRecord` leaves as it was. -/
@[simp] theorem State.judgeRecord_frame (s : State) (p : Port) (d : Dialogue) (t : List Code) (m : List Nat) (st : RecordStatus) :
    (s.judgeRecord p d t m st).policies = s.policies ∧ (s.judgeRecord p d t m st).classes = s.classes ∧
    (s.judgeRecord p d t m st).messages = s.messages ∧ (s.judgeRecord p d t m st).bills = s.bills ∧
    (s.judgeRecord p d t m st).draws = s.draws ∧ (s.judgeRecord p d t m st).pending = s.pending ∧
    (s.judgeRecord p d t m st).tariff.clockValid = s.tariff.clockValid ∧
    (s.judgeRecord p d t m st).tariff.clock = s.tariff.clock ∧
    (s.judgeRecord p d t m st).tariff.active = s.tariff.active ∧
    (s.judgeRecord p d t m st).tariff.standby = s.tariff.standby ∧
    (s.judgeRecord p d t m st).tariff.activePresent = s.tariff.activePresent ∧
    (s.judgeRecord p d t m st).tariff.commit = s.tariff.commit ∧
    (s.judgeRecord p d t m st).tariff.period = s.tariff.period ∧
    (s.judgeRecord p d t m st).tariff.steps = s.tariff.steps ∧
    (s.judgeRecord p d t m st).link.assembler = s.link.assembler ∧
    (s.judgeRecord p d t m st).link.heldOrder = s.link.heldOrder ∧
    (s.judgeRecord p d t m st).link.replyPath = s.link.replyPath ∧
    (s.judgeRecord p d t m st).link.sending = s.link.sending ∧
    (s.judgeRecord p d t m st).link.enables = s.link.enables ∧ (s.judgeRecord p d t m st).link.host = s.link.host ∧
    (s.judgeRecord p d t m st).link.timeoutRunning = s.link.timeoutRunning ∧
    (s.judgeRecord p d t m st).link.downRemaining = s.link.downRemaining ∧
    (s.judgeRecord p d t m st).link.secondsDown = s.link.secondsDown ∧
    (s.judgeRecord p d t m st).link.downExpired = s.link.downExpired ∧
    (s.judgeRecord p d t m st).link.limits = s.link.limits := by
  unfold State.judgeRecord
  repeat' (first | split | simp only [])
  all_goals simp

end Sys2Proof.Machine
end

