-- ==== Sys2Proof/Laws/Marks.lean ====
section
/-! SUPPORT. What the operations of the Tariff Unit, the Link Controller and the Timebase leave as it was, field by field. -/

namespace Sys2Proof.Machine

/-! ## The Tariff Unit -/

/-- What `State.advanceClock` leaves as it was. -/
@[simp] theorem State.advanceClock_frame (s : State) :
    (s.advanceClock).lines = s.lines ∧ (s.advanceClock).policies = s.policies ∧
    (s.advanceClock).accounts = s.accounts ∧ (s.advanceClock).classes = s.classes ∧
    (s.advanceClock).messages = s.messages ∧ (s.advanceClock).waitQueue = s.waitQueue ∧
    (s.advanceClock).inputWait = s.inputWait ∧ (s.advanceClock).sessions = s.sessions ∧
    (s.advanceClock).nextNumber = s.nextNumber ∧ (s.advanceClock).bills = s.bills ∧
    (s.advanceClock).draws = s.draws ∧ (s.advanceClock).pending = s.pending ∧
    (s.advanceClock).tariff.clockValid = s.tariff.clockValid ∧ (s.advanceClock).tariff.active = s.tariff.active ∧
    (s.advanceClock).tariff.standby = s.tariff.standby ∧
    (s.advanceClock).tariff.activePresent = s.tariff.activePresent ∧
    (s.advanceClock).tariff.commit = s.tariff.commit ∧ (s.advanceClock).tariff.period = s.tariff.period ∧
    (s.advanceClock).tariff.steps = s.tariff.steps ∧ (s.advanceClock).tariff.band = s.tariff.band ∧
    (s.advanceClock).link = s.link := by
  unfold State.advanceClock
  repeat' (first | split | simp only [])
  all_goals simp

/-- What `State.queueMessages` leaves as it was. -/
@[simp] theorem State.queueMessages_frame (ms : List Session) (m : Slot) (s : State) :
    (ms.foldl (fun q x => q.queueMessageTo x.boundLine m) s).policies = s.policies ∧
    (ms.foldl (fun q x => q.queueMessageTo x.boundLine m) s).accounts = s.accounts ∧
    (ms.foldl (fun q x => q.queueMessageTo x.boundLine m) s).classes = s.classes ∧
    (ms.foldl (fun q x => q.queueMessageTo x.boundLine m) s).messages = s.messages ∧
    (ms.foldl (fun q x => q.queueMessageTo x.boundLine m) s).waitQueue = s.waitQueue ∧
    (ms.foldl (fun q x => q.queueMessageTo x.boundLine m) s).inputWait = s.inputWait ∧
    (ms.foldl (fun q x => q.queueMessageTo x.boundLine m) s).sessions = s.sessions ∧
    (ms.foldl (fun q x => q.queueMessageTo x.boundLine m) s).nextNumber = s.nextNumber ∧
    (ms.foldl (fun q x => q.queueMessageTo x.boundLine m) s).bills = s.bills ∧
    (ms.foldl (fun q x => q.queueMessageTo x.boundLine m) s).draws = s.draws ∧
    (ms.foldl (fun q x => q.queueMessageTo x.boundLine m) s).pending = s.pending ∧
    (ms.foldl (fun q x => q.queueMessageTo x.boundLine m) s).tariff = s.tariff ∧
    (ms.foldl (fun q x => q.queueMessageTo x.boundLine m) s).link = s.link := by
  induction ms generalizing s with
  | nil => simp
  | cons x rest ih => simp [ih]

/-- What `State.closedSignal` leaves as it was. -/
@[simp] theorem State.closedSignal_frame (s : State) (c : Fin 4) :
    (s.closedSignal c).policies = s.policies ∧ (s.closedSignal c).accounts = s.accounts ∧
    (s.closedSignal c).classes = s.classes ∧ (s.closedSignal c).messages = s.messages ∧
    (s.closedSignal c).waitQueue = s.waitQueue ∧ (s.closedSignal c).inputWait = s.inputWait ∧
    (s.closedSignal c).nextNumber = s.nextNumber ∧ (s.closedSignal c).bills = s.bills ∧
    (s.closedSignal c).draws = s.draws ∧ (s.closedSignal c).pending = s.pending ∧
    (s.closedSignal c).tariff = s.tariff ∧ (s.closedSignal c).link = s.link := by
  unfold State.closedSignal
  simp

/-- What `State.reopenedSignal` leaves as it was. -/
@[simp] theorem State.reopenedSignal_frame (s : State) (c : Fin 4) :
    (s.reopenedSignal c).lines = s.lines ∧ (s.reopenedSignal c).policies = s.policies ∧
    (s.reopenedSignal c).accounts = s.accounts ∧ (s.reopenedSignal c).classes = s.classes ∧
    (s.reopenedSignal c).messages = s.messages ∧ (s.reopenedSignal c).waitQueue = s.waitQueue ∧
    (s.reopenedSignal c).inputWait = s.inputWait ∧ (s.reopenedSignal c).nextNumber = s.nextNumber ∧
    (s.reopenedSignal c).bills = s.bills ∧ (s.reopenedSignal c).draws = s.draws ∧
    (s.reopenedSignal c).pending = s.pending ∧ (s.reopenedSignal c).tariff = s.tariff ∧
    (s.reopenedSignal c).link = s.link := by
  simp [State.reopenedSignal]

/-- What `State.rateSignal` leaves as it was. -/
@[simp] theorem State.rateSignal_frame (s : State) (c : Fin 4) (a b : Option Rate) :
    (s.rateSignal c a b).policies = s.policies ∧ (s.rateSignal c a b).accounts = s.accounts ∧
    (s.rateSignal c a b).classes = s.classes ∧ (s.rateSignal c a b).messages = s.messages ∧
    (s.rateSignal c a b).waitQueue = s.waitQueue ∧ (s.rateSignal c a b).inputWait = s.inputWait ∧
    (s.rateSignal c a b).nextNumber = s.nextNumber ∧ (s.rateSignal c a b).bills = s.bills ∧
    (s.rateSignal c a b).draws = s.draws ∧ (s.rateSignal c a b).pending = s.pending ∧
    (s.rateSignal c a b).tariff = s.tariff ∧ (s.rateSignal c a b).link = s.link := by
  unfold State.rateSignal
  repeat' (first | split | simp only [])
  all_goals simp

/-- What `State.rateSignals` leaves as it was. -/
@[simp] theorem State.rateSignals_frame (s : State) (a b : Option Period) :
    (s.rateSignals a b).policies = s.policies ∧ (s.rateSignals a b).accounts = s.accounts ∧
    (s.rateSignals a b).classes = s.classes ∧ (s.rateSignals a b).messages = s.messages ∧
    (s.rateSignals a b).waitQueue = s.waitQueue ∧ (s.rateSignals a b).inputWait = s.inputWait ∧
    (s.rateSignals a b).nextNumber = s.nextNumber ∧ (s.rateSignals a b).bills = s.bills ∧
    (s.rateSignals a b).draws = s.draws ∧ (s.rateSignals a b).pending = s.pending ∧
    (s.rateSignals a b).tariff = s.tariff ∧ (s.rateSignals a b).link = s.link := by
  unfold State.rateSignals
  simp

/-- What `State.selectPeriod` leaves as it was. -/
@[simp] theorem State.selectPeriod_frame (s : State) :
    (s.selectPeriod).policies = s.policies ∧ (s.selectPeriod).accounts = s.accounts ∧
    (s.selectPeriod).classes = s.classes ∧ (s.selectPeriod).messages = s.messages ∧
    (s.selectPeriod).waitQueue = s.waitQueue ∧ (s.selectPeriod).inputWait = s.inputWait ∧
    (s.selectPeriod).nextNumber = s.nextNumber ∧ (s.selectPeriod).bills = s.bills ∧
    (s.selectPeriod).draws = s.draws ∧ (s.selectPeriod).pending = s.pending ∧
    (s.selectPeriod).tariff.clockValid = s.tariff.clockValid ∧ (s.selectPeriod).tariff.clock = s.tariff.clock ∧
    (s.selectPeriod).tariff.active = s.tariff.active ∧ (s.selectPeriod).tariff.standby = s.tariff.standby ∧
    (s.selectPeriod).tariff.activePresent = s.tariff.activePresent ∧
    (s.selectPeriod).tariff.commit = s.tariff.commit ∧ (s.selectPeriod).tariff.steps = s.tariff.steps ∧
    (s.selectPeriod).tariff.band = s.tariff.band ∧ (s.selectPeriod).link = s.link := by
  unfold State.selectPeriod
  repeat' (first | split | simp only [])
  all_goals simp

/-- What `State.switchTariff` leaves as it was. -/
@[simp] theorem State.switchTariff_frame (s : State) :
    (s.switchTariff).policies = s.policies ∧ (s.switchTariff).accounts = s.accounts ∧
    (s.switchTariff).classes = s.classes ∧ (s.switchTariff).messages = s.messages ∧
    (s.switchTariff).waitQueue = s.waitQueue ∧ (s.switchTariff).inputWait = s.inputWait ∧
    (s.switchTariff).nextNumber = s.nextNumber ∧ (s.switchTariff).bills = s.bills ∧
    (s.switchTariff).draws = s.draws ∧ (s.switchTariff).pending = s.pending ∧
    (s.switchTariff).tariff.clockValid = s.tariff.clockValid ∧ (s.switchTariff).tariff.clock = s.tariff.clock ∧
    (s.switchTariff).tariff.standby = s.tariff.standby ∧ (s.switchTariff).tariff.steps = s.tariff.steps ∧
    (s.switchTariff).tariff.band = s.tariff.band ∧ (s.switchTariff).link.assembler = s.link.assembler ∧
    (s.switchTariff).link.heldOrder = s.link.heldOrder ∧ (s.switchTariff).link.replyPath = s.link.replyPath ∧
    (s.switchTariff).link.sending = s.link.sending ∧ (s.switchTariff).link.enables = s.link.enables ∧
    (s.switchTariff).link.host = s.link.host ∧ (s.switchTariff).link.timeoutRunning = s.link.timeoutRunning ∧
    (s.switchTariff).link.downRemaining = s.link.downRemaining ∧
    (s.switchTariff).link.secondsDown = s.link.secondsDown ∧
    (s.switchTariff).link.downExpired = s.link.downExpired ∧ (s.switchTariff).link.limits = s.link.limits := by
  unfold State.switchTariff
  repeat' (first | split | simp only [])
  all_goals simp

/-- What `State.minuteMark` leaves as it was. -/
@[simp] theorem State.minuteMark_frame (s : State) (w : Bool) :
    (s.minuteMark w).policies = s.policies ∧ (s.minuteMark w).accounts = s.accounts ∧
    (s.minuteMark w).classes = s.classes ∧ (s.minuteMark w).messages = s.messages ∧
    (s.minuteMark w).waitQueue = s.waitQueue ∧ (s.minuteMark w).inputWait = s.inputWait ∧
    (s.minuteMark w).nextNumber = s.nextNumber ∧ (s.minuteMark w).bills = s.bills ∧
    (s.minuteMark w).draws = s.draws ∧ (s.minuteMark w).pending = s.pending ∧
    (s.minuteMark w).tariff.clockValid = s.tariff.clockValid ∧ (s.minuteMark w).tariff.clock = s.tariff.clock ∧
    (s.minuteMark w).tariff.standby = s.tariff.standby ∧ (s.minuteMark w).tariff.steps = s.tariff.steps ∧
    (s.minuteMark w).tariff.band = s.tariff.band ∧ (s.minuteMark w).link.assembler = s.link.assembler ∧
    (s.minuteMark w).link.heldOrder = s.link.heldOrder ∧ (s.minuteMark w).link.replyPath = s.link.replyPath ∧
    (s.minuteMark w).link.sending = s.link.sending ∧ (s.minuteMark w).link.enables = s.link.enables ∧
    (s.minuteMark w).link.host = s.link.host ∧ (s.minuteMark w).link.timeoutRunning = s.link.timeoutRunning ∧
    (s.minuteMark w).link.downRemaining = s.link.downRemaining ∧
    (s.minuteMark w).link.secondsDown = s.link.secondsDown ∧
    (s.minuteMark w).link.downExpired = s.link.downExpired ∧ (s.minuteMark w).link.limits = s.link.limits := by
  unfold State.minuteMark
  repeat' (first | split | simp only [])
  all_goals simp

/-! ## The Link Controller -/

/-- What `State.placeReply` leaves as it was. -/
@[simp] theorem State.placeReply_frame (s : State) (k : Byte) (c : ReplyCode) (d : List Byte) :
    (s.placeReply k c d).lines = s.lines ∧ (s.placeReply k c d).policies = s.policies ∧
    (s.placeReply k c d).accounts = s.accounts ∧ (s.placeReply k c d).classes = s.classes ∧
    (s.placeReply k c d).messages = s.messages ∧ (s.placeReply k c d).waitQueue = s.waitQueue ∧
    (s.placeReply k c d).inputWait = s.inputWait ∧ (s.placeReply k c d).sessions = s.sessions ∧
    (s.placeReply k c d).nextNumber = s.nextNumber ∧ (s.placeReply k c d).bills = s.bills ∧
    (s.placeReply k c d).draws = s.draws ∧ (s.placeReply k c d).pending = s.pending ∧
    (s.placeReply k c d).tariff = s.tariff ∧ (s.placeReply k c d).link.assembler = s.link.assembler ∧
    (s.placeReply k c d).link.heldOrder = s.link.heldOrder ∧ (s.placeReply k c d).link.sending = s.link.sending ∧
    (s.placeReply k c d).link.reports = s.link.reports ∧ (s.placeReply k c d).link.lost = s.link.lost ∧
    (s.placeReply k c d).link.enables = s.link.enables ∧ (s.placeReply k c d).link.host = s.link.host ∧
    (s.placeReply k c d).link.timeoutRunning = s.link.timeoutRunning ∧
    (s.placeReply k c d).link.downRemaining = s.link.downRemaining ∧
    (s.placeReply k c d).link.secondsDown = s.link.secondsDown ∧
    (s.placeReply k c d).link.downExpired = s.link.downExpired ∧ (s.placeReply k c d).link.limits = s.link.limits := by
  simp [State.placeReply]

/-- What `State.refuse` leaves as it was. -/
@[simp] theorem State.refuse_frame (s : State) (k : Byte) (c : ReplyCode) :
    (s.refuse k c).lines = s.lines ∧ (s.refuse k c).policies = s.policies ∧ (s.refuse k c).accounts = s.accounts ∧
    (s.refuse k c).classes = s.classes ∧ (s.refuse k c).messages = s.messages ∧
    (s.refuse k c).waitQueue = s.waitQueue ∧ (s.refuse k c).inputWait = s.inputWait ∧
    (s.refuse k c).sessions = s.sessions ∧ (s.refuse k c).nextNumber = s.nextNumber ∧
    (s.refuse k c).bills = s.bills ∧ (s.refuse k c).draws = s.draws ∧ (s.refuse k c).pending = s.pending ∧
    (s.refuse k c).tariff = s.tariff ∧ (s.refuse k c).link.assembler = s.link.assembler ∧
    (s.refuse k c).link.heldOrder = s.link.heldOrder ∧ (s.refuse k c).link.sending = s.link.sending ∧
    (s.refuse k c).link.reports = s.link.reports ∧ (s.refuse k c).link.lost = s.link.lost ∧
    (s.refuse k c).link.enables = s.link.enables ∧ (s.refuse k c).link.host = s.link.host ∧
    (s.refuse k c).link.timeoutRunning = s.link.timeoutRunning ∧
    (s.refuse k c).link.downRemaining = s.link.downRemaining ∧
    (s.refuse k c).link.secondsDown = s.link.secondsDown ∧ (s.refuse k c).link.downExpired = s.link.downExpired ∧
    (s.refuse k c).link.limits = s.link.limits := by
  unfold State.refuse
  simp

/-- What `State.stallSessions` leaves as it was. -/
@[simp] theorem State.stallSessions_frame (s : State) :
    (s.stallSessions).policies = s.policies ∧ (s.stallSessions).accounts = s.accounts ∧
    (s.stallSessions).classes = s.classes ∧ (s.stallSessions).messages = s.messages ∧
    (s.stallSessions).waitQueue = s.waitQueue ∧ (s.stallSessions).inputWait = s.inputWait ∧
    (s.stallSessions).nextNumber = s.nextNumber ∧ (s.stallSessions).bills = s.bills ∧
    (s.stallSessions).draws = s.draws ∧ (s.stallSessions).pending = s.pending ∧
    (s.stallSessions).tariff = s.tariff ∧ (s.stallSessions).link = s.link := by
  unfold State.stallSessions
  simp

/-- What `State.resumeSessions` leaves as it was. -/
@[simp] theorem State.resumeSessions_frame (s : State) :
    (s.resumeSessions).policies = s.policies ∧ (s.resumeSessions).accounts = s.accounts ∧
    (s.resumeSessions).classes = s.classes ∧ (s.resumeSessions).messages = s.messages ∧
    (s.resumeSessions).waitQueue = s.waitQueue ∧ (s.resumeSessions).inputWait = s.inputWait ∧
    (s.resumeSessions).nextNumber = s.nextNumber ∧ (s.resumeSessions).bills = s.bills ∧
    (s.resumeSessions).draws = s.draws ∧ (s.resumeSessions).pending = s.pending ∧
    (s.resumeSessions).tariff = s.tariff ∧ (s.resumeSessions).link = s.link := by
  unfold State.resumeSessions
  simp

/-- What `State.emptyQueue` leaves as it was. -/
@[simp] theorem State.emptyQueue_frame (ps : List Port) (s : State) :
    (s.emptyQueue ps).policies = s.policies ∧ (s.emptyQueue ps).accounts = s.accounts ∧
    (s.emptyQueue ps).classes = s.classes ∧ (s.emptyQueue ps).messages = s.messages ∧
    (s.emptyQueue ps).sessions = s.sessions ∧ (s.emptyQueue ps).nextNumber = s.nextNumber ∧
    (s.emptyQueue ps).bills = s.bills ∧ (s.emptyQueue ps).draws = s.draws ∧ (s.emptyQueue ps).pending = s.pending ∧
    (s.emptyQueue ps).tariff = s.tariff ∧ (s.emptyQueue ps).link.assembler = s.link.assembler ∧
    (s.emptyQueue ps).link.heldOrder = s.link.heldOrder ∧ (s.emptyQueue ps).link.replyPath = s.link.replyPath ∧
    (s.emptyQueue ps).link.sending = s.link.sending ∧ (s.emptyQueue ps).link.enables = s.link.enables ∧
    (s.emptyQueue ps).link.host = s.link.host ∧ (s.emptyQueue ps).link.timeoutRunning = s.link.timeoutRunning ∧
    (s.emptyQueue ps).link.downRemaining = s.link.downRemaining ∧
    (s.emptyQueue ps).link.secondsDown = s.link.secondsDown ∧
    (s.emptyQueue ps).link.downExpired = s.link.downExpired ∧ (s.emptyQueue ps).link.limits = s.link.limits := by
  induction ps generalizing s with
  | nil => simp [State.emptyQueue]
  | cons p rest ih => simp [State.emptyQueue, ih]

/-- What `State.hostDown` leaves as it was. -/
@[simp] theorem State.hostDown_frame (s : State) :
    (s.hostDown).policies = s.policies ∧ (s.hostDown).accounts = s.accounts ∧ (s.hostDown).classes = s.classes ∧
    (s.hostDown).messages = s.messages ∧ (s.hostDown).nextNumber = s.nextNumber ∧ (s.hostDown).bills = s.bills ∧
    (s.hostDown).draws = s.draws ∧ (s.hostDown).pending = s.pending ∧ (s.hostDown).tariff = s.tariff ∧
    (s.hostDown).link.assembler = s.link.assembler ∧ (s.hostDown).link.heldOrder = s.link.heldOrder ∧
    (s.hostDown).link.replyPath = s.link.replyPath ∧ (s.hostDown).link.sending = s.link.sending ∧
    (s.hostDown).link.enables = s.link.enables ∧ (s.hostDown).link.limits = s.link.limits := by
  unfold State.hostDown
  simp

/-- What `State.restartTimeout` leaves as it was. -/
@[simp] theorem State.restartTimeout_frame (s : State) :
    (s.restartTimeout).lines = s.lines ∧ (s.restartTimeout).policies = s.policies ∧
    (s.restartTimeout).accounts = s.accounts ∧ (s.restartTimeout).classes = s.classes ∧
    (s.restartTimeout).messages = s.messages ∧ (s.restartTimeout).waitQueue = s.waitQueue ∧
    (s.restartTimeout).inputWait = s.inputWait ∧ (s.restartTimeout).sessions = s.sessions ∧
    (s.restartTimeout).nextNumber = s.nextNumber ∧ (s.restartTimeout).bills = s.bills ∧
    (s.restartTimeout).draws = s.draws ∧ (s.restartTimeout).pending = s.pending ∧
    (s.restartTimeout).tariff = s.tariff ∧ (s.restartTimeout).link.assembler = s.link.assembler ∧
    (s.restartTimeout).link.heldOrder = s.link.heldOrder ∧ (s.restartTimeout).link.replyPath = s.link.replyPath ∧
    (s.restartTimeout).link.sending = s.link.sending ∧ (s.restartTimeout).link.reports = s.link.reports ∧
    (s.restartTimeout).link.lost = s.link.lost ∧ (s.restartTimeout).link.enables = s.link.enables ∧
    (s.restartTimeout).link.host = s.link.host ∧ (s.restartTimeout).link.downRemaining = s.link.downRemaining ∧
    (s.restartTimeout).link.secondsDown = s.link.secondsDown ∧
    (s.restartTimeout).link.downExpired = s.link.downExpired ∧ (s.restartTimeout).link.limits = s.link.limits := by
  simp [State.restartTimeout]

/-- What `State.goodFrame` leaves as it was. -/
@[simp] theorem State.goodFrame_frame (s : State) :
    (s.goodFrame).policies = s.policies ∧ (s.goodFrame).accounts = s.accounts ∧ (s.goodFrame).classes = s.classes ∧
    (s.goodFrame).messages = s.messages ∧ (s.goodFrame).waitQueue = s.waitQueue ∧
    (s.goodFrame).inputWait = s.inputWait ∧ (s.goodFrame).nextNumber = s.nextNumber ∧
    (s.goodFrame).bills = s.bills ∧ (s.goodFrame).draws = s.draws ∧ (s.goodFrame).pending = s.pending ∧
    (s.goodFrame).tariff = s.tariff ∧ (s.goodFrame).link.assembler = s.link.assembler ∧
    (s.goodFrame).link.heldOrder = s.link.heldOrder ∧ (s.goodFrame).link.replyPath = s.link.replyPath ∧
    (s.goodFrame).link.sending = s.link.sending ∧ (s.goodFrame).link.enables = s.link.enables ∧
    (s.goodFrame).link.secondsDown = s.link.secondsDown ∧ (s.goodFrame).link.downExpired = s.link.downExpired ∧
    (s.goodFrame).link.limits = s.link.limits := by
  unfold State.goodFrame
  repeat' (first | split | simp only [])
  all_goals simp

/-! ## Expiries -/

/-- What `State.answerWindowExpires` leaves as it was. -/
@[simp] theorem State.answerWindowExpires_frame (s : State) (p : Port) :
    (s.answerWindowExpires p).policies = s.policies ∧ (s.answerWindowExpires p).classes = s.classes ∧
    (s.answerWindowExpires p).messages = s.messages ∧ (s.answerWindowExpires p).draws = s.draws ∧
    (s.answerWindowExpires p).pending = s.pending ∧
    (s.answerWindowExpires p).tariff.clockValid = s.tariff.clockValid ∧
    (s.answerWindowExpires p).tariff.clock = s.tariff.clock ∧
    (s.answerWindowExpires p).tariff.active = s.tariff.active ∧
    (s.answerWindowExpires p).tariff.standby = s.tariff.standby ∧
    (s.answerWindowExpires p).tariff.activePresent = s.tariff.activePresent ∧
    (s.answerWindowExpires p).tariff.commit = s.tariff.commit ∧
    (s.answerWindowExpires p).tariff.period = s.tariff.period ∧
    (s.answerWindowExpires p).tariff.steps = s.tariff.steps ∧
    (s.answerWindowExpires p).link.assembler = s.link.assembler ∧
    (s.answerWindowExpires p).link.heldOrder = s.link.heldOrder ∧
    (s.answerWindowExpires p).link.replyPath = s.link.replyPath ∧
    (s.answerWindowExpires p).link.sending = s.link.sending ∧
    (s.answerWindowExpires p).link.enables = s.link.enables ∧ (s.answerWindowExpires p).link.host = s.link.host ∧
    (s.answerWindowExpires p).link.timeoutRunning = s.link.timeoutRunning ∧
    (s.answerWindowExpires p).link.downRemaining = s.link.downRemaining ∧
    (s.answerWindowExpires p).link.secondsDown = s.link.secondsDown ∧
    (s.answerWindowExpires p).link.downExpired = s.link.downExpired ∧
    (s.answerWindowExpires p).link.limits = s.link.limits := by
  unfold State.answerWindowExpires
  repeat' (first | split | simp only [])
  all_goals simp

/-- What `State.speedWindowExpires` leaves as it was. -/
@[simp] theorem State.speedWindowExpires_frame (s : State) (p : Port) :
    (s.speedWindowExpires p).policies = s.policies ∧ (s.speedWindowExpires p).classes = s.classes ∧
    (s.speedWindowExpires p).messages = s.messages ∧ (s.speedWindowExpires p).draws = s.draws ∧
    (s.speedWindowExpires p).pending = s.pending ∧
    (s.speedWindowExpires p).tariff.clockValid = s.tariff.clockValid ∧
    (s.speedWindowExpires p).tariff.clock = s.tariff.clock ∧
    (s.speedWindowExpires p).tariff.active = s.tariff.active ∧
    (s.speedWindowExpires p).tariff.standby = s.tariff.standby ∧
    (s.speedWindowExpires p).tariff.activePresent = s.tariff.activePresent ∧
    (s.speedWindowExpires p).tariff.commit = s.tariff.commit ∧
    (s.speedWindowExpires p).tariff.period = s.tariff.period ∧
    (s.speedWindowExpires p).tariff.steps = s.tariff.steps ∧
    (s.speedWindowExpires p).link.assembler = s.link.assembler ∧
    (s.speedWindowExpires p).link.heldOrder = s.link.heldOrder ∧
    (s.speedWindowExpires p).link.replyPath = s.link.replyPath ∧
    (s.speedWindowExpires p).link.sending = s.link.sending ∧
    (s.speedWindowExpires p).link.enables = s.link.enables ∧ (s.speedWindowExpires p).link.host = s.link.host ∧
    (s.speedWindowExpires p).link.timeoutRunning = s.link.timeoutRunning ∧
    (s.speedWindowExpires p).link.downRemaining = s.link.downRemaining ∧
    (s.speedWindowExpires p).link.secondsDown = s.link.secondsDown ∧
    (s.speedWindowExpires p).link.downExpired = s.link.downExpired ∧
    (s.speedWindowExpires p).link.limits = s.link.limits := by
  unfold State.speedWindowExpires
  repeat' (first | split | simp only [])
  all_goals simp

/-- What `State.drainLimitExpires` leaves as it was. -/
@[simp] theorem State.drainLimitExpires_frame (s : State) (p : Port) :
    (s.drainLimitExpires p).policies = s.policies ∧ (s.drainLimitExpires p).classes = s.classes ∧
    (s.drainLimitExpires p).messages = s.messages ∧ (s.drainLimitExpires p).draws = s.draws ∧
    (s.drainLimitExpires p).pending = s.pending ∧ (s.drainLimitExpires p).tariff.clockValid = s.tariff.clockValid ∧
    (s.drainLimitExpires p).tariff.clock = s.tariff.clock ∧
    (s.drainLimitExpires p).tariff.active = s.tariff.active ∧
    (s.drainLimitExpires p).tariff.standby = s.tariff.standby ∧
    (s.drainLimitExpires p).tariff.activePresent = s.tariff.activePresent ∧
    (s.drainLimitExpires p).tariff.commit = s.tariff.commit ∧
    (s.drainLimitExpires p).tariff.period = s.tariff.period ∧
    (s.drainLimitExpires p).tariff.steps = s.tariff.steps ∧
    (s.drainLimitExpires p).link.assembler = s.link.assembler ∧
    (s.drainLimitExpires p).link.heldOrder = s.link.heldOrder ∧
    (s.drainLimitExpires p).link.replyPath = s.link.replyPath ∧
    (s.drainLimitExpires p).link.sending = s.link.sending ∧ (s.drainLimitExpires p).link.enables = s.link.enables ∧
    (s.drainLimitExpires p).link.host = s.link.host ∧
    (s.drainLimitExpires p).link.timeoutRunning = s.link.timeoutRunning ∧
    (s.drainLimitExpires p).link.downRemaining = s.link.downRemaining ∧
    (s.drainLimitExpires p).link.secondsDown = s.link.secondsDown ∧
    (s.drainLimitExpires p).link.downExpired = s.link.downExpired ∧
    (s.drainLimitExpires p).link.limits = s.link.limits := by
  unfold State.drainLimitExpires
  repeat' (first | split | simp only [])
  all_goals simp

/-- What `State.guardTimeExpires` leaves as it was. -/
@[simp] theorem State.guardTimeExpires_frame (s : State) (p : Port) :
    (s.guardTimeExpires p).policies = s.policies ∧ (s.guardTimeExpires p).accounts = s.accounts ∧
    (s.guardTimeExpires p).classes = s.classes ∧ (s.guardTimeExpires p).messages = s.messages ∧
    (s.guardTimeExpires p).waitQueue = s.waitQueue ∧ (s.guardTimeExpires p).inputWait = s.inputWait ∧
    (s.guardTimeExpires p).sessions = s.sessions ∧ (s.guardTimeExpires p).nextNumber = s.nextNumber ∧
    (s.guardTimeExpires p).bills = s.bills ∧ (s.guardTimeExpires p).draws = s.draws ∧
    (s.guardTimeExpires p).pending = s.pending ∧ (s.guardTimeExpires p).tariff = s.tariff ∧
    (s.guardTimeExpires p).link = s.link := by
  unfold State.guardTimeExpires
  repeat' (first | split | simp only [])
  all_goals simp

/-- What `State.retryPeriodExpires` leaves as it was. -/
@[simp] theorem State.retryPeriodExpires_frame (s : State) (p : Port) :
    (s.retryPeriodExpires p).policies = s.policies ∧ (s.retryPeriodExpires p).accounts = s.accounts ∧
    (s.retryPeriodExpires p).classes = s.classes ∧ (s.retryPeriodExpires p).messages = s.messages ∧
    (s.retryPeriodExpires p).waitQueue = s.waitQueue ∧ (s.retryPeriodExpires p).inputWait = s.inputWait ∧
    (s.retryPeriodExpires p).sessions = s.sessions ∧ (s.retryPeriodExpires p).nextNumber = s.nextNumber ∧
    (s.retryPeriodExpires p).bills = s.bills ∧ (s.retryPeriodExpires p).draws = s.draws ∧
    (s.retryPeriodExpires p).pending = s.pending ∧ (s.retryPeriodExpires p).tariff = s.tariff ∧
    (s.retryPeriodExpires p).link.assembler = s.link.assembler ∧
    (s.retryPeriodExpires p).link.heldOrder = s.link.heldOrder ∧
    (s.retryPeriodExpires p).link.replyPath = s.link.replyPath ∧
    (s.retryPeriodExpires p).link.sending = s.link.sending ∧
    (s.retryPeriodExpires p).link.enables = s.link.enables ∧ (s.retryPeriodExpires p).link.host = s.link.host ∧
    (s.retryPeriodExpires p).link.timeoutRunning = s.link.timeoutRunning ∧
    (s.retryPeriodExpires p).link.downRemaining = s.link.downRemaining ∧
    (s.retryPeriodExpires p).link.secondsDown = s.link.secondsDown ∧
    (s.retryPeriodExpires p).link.downExpired = s.link.downExpired ∧
    (s.retryPeriodExpires p).link.limits = s.link.limits := by
  unfold State.retryPeriodExpires
  repeat' (first | split | simp only [])
  all_goals simp

/-- What `State.noiseWindowExpires` leaves as it was. -/
@[simp] theorem State.noiseWindowExpires_frame (s : State) (p : Port) :
    (s.noiseWindowExpires p).policies = s.policies ∧ (s.noiseWindowExpires p).accounts = s.accounts ∧
    (s.noiseWindowExpires p).classes = s.classes ∧ (s.noiseWindowExpires p).messages = s.messages ∧
    (s.noiseWindowExpires p).waitQueue = s.waitQueue ∧ (s.noiseWindowExpires p).inputWait = s.inputWait ∧
    (s.noiseWindowExpires p).sessions = s.sessions ∧ (s.noiseWindowExpires p).nextNumber = s.nextNumber ∧
    (s.noiseWindowExpires p).bills = s.bills ∧ (s.noiseWindowExpires p).draws = s.draws ∧
    (s.noiseWindowExpires p).pending = s.pending ∧ (s.noiseWindowExpires p).tariff = s.tariff ∧
    (s.noiseWindowExpires p).link = s.link := by
  unfold State.noiseWindowExpires
  repeat' (first | split | simp only [])
  all_goals simp

/-- What `State.windowExpires` leaves as it was. -/
@[simp] theorem State.windowExpires_frame (s : State) (p : Port) :
    (s.windowExpires p).policies = s.policies ∧ (s.windowExpires p).classes = s.classes ∧
    (s.windowExpires p).messages = s.messages ∧ (s.windowExpires p).draws = s.draws ∧
    (s.windowExpires p).pending = s.pending ∧ (s.windowExpires p).tariff.clockValid = s.tariff.clockValid ∧
    (s.windowExpires p).tariff.clock = s.tariff.clock ∧ (s.windowExpires p).tariff.active = s.tariff.active ∧
    (s.windowExpires p).tariff.standby = s.tariff.standby ∧
    (s.windowExpires p).tariff.activePresent = s.tariff.activePresent ∧
    (s.windowExpires p).tariff.commit = s.tariff.commit ∧ (s.windowExpires p).tariff.period = s.tariff.period ∧
    (s.windowExpires p).tariff.steps = s.tariff.steps ∧ (s.windowExpires p).link.assembler = s.link.assembler ∧
    (s.windowExpires p).link.heldOrder = s.link.heldOrder ∧ (s.windowExpires p).link.replyPath = s.link.replyPath ∧
    (s.windowExpires p).link.sending = s.link.sending ∧ (s.windowExpires p).link.enables = s.link.enables ∧
    (s.windowExpires p).link.host = s.link.host ∧ (s.windowExpires p).link.timeoutRunning = s.link.timeoutRunning ∧
    (s.windowExpires p).link.downRemaining = s.link.downRemaining ∧
    (s.windowExpires p).link.secondsDown = s.link.secondsDown ∧
    (s.windowExpires p).link.downExpired = s.link.downExpired ∧ (s.windowExpires p).link.limits = s.link.limits := by
  unfold State.windowExpires
  repeat' (first | split | simp only [])
  all_goals simp

/-- What `State.lockExpires` leaves as it was. -/
@[simp] theorem State.lockExpires_frame (s : State) (a : Nat) :
    (s.lockExpires a).lines = s.lines ∧ (s.lockExpires a).policies = s.policies ∧
    (s.lockExpires a).classes = s.classes ∧ (s.lockExpires a).messages = s.messages ∧
    (s.lockExpires a).waitQueue = s.waitQueue ∧ (s.lockExpires a).inputWait = s.inputWait ∧
    (s.lockExpires a).sessions = s.sessions ∧ (s.lockExpires a).nextNumber = s.nextNumber ∧
    (s.lockExpires a).bills = s.bills ∧ (s.lockExpires a).draws = s.draws ∧ (s.lockExpires a).pending = s.pending ∧
    (s.lockExpires a).tariff = s.tariff ∧ (s.lockExpires a).link = s.link := by
  unfold State.lockExpires
  simp

/-- What `State.signOnLimitExpires` leaves as it was. -/
@[simp] theorem State.signOnLimitExpires_frame (s : State) (p : Port) :
    (s.signOnLimitExpires p).policies = s.policies ∧ (s.signOnLimitExpires p).accounts = s.accounts ∧
    (s.signOnLimitExpires p).classes = s.classes ∧ (s.signOnLimitExpires p).messages = s.messages ∧
    (s.signOnLimitExpires p).sessions = s.sessions ∧ (s.signOnLimitExpires p).nextNumber = s.nextNumber ∧
    (s.signOnLimitExpires p).bills = s.bills ∧ (s.signOnLimitExpires p).draws = s.draws ∧
    (s.signOnLimitExpires p).pending = s.pending ∧ (s.signOnLimitExpires p).tariff = s.tariff ∧
    (s.signOnLimitExpires p).link.assembler = s.link.assembler ∧
    (s.signOnLimitExpires p).link.heldOrder = s.link.heldOrder ∧
    (s.signOnLimitExpires p).link.replyPath = s.link.replyPath ∧
    (s.signOnLimitExpires p).link.sending = s.link.sending ∧
    (s.signOnLimitExpires p).link.enables = s.link.enables ∧ (s.signOnLimitExpires p).link.host = s.link.host ∧
    (s.signOnLimitExpires p).link.timeoutRunning = s.link.timeoutRunning ∧
    (s.signOnLimitExpires p).link.downRemaining = s.link.downRemaining ∧
    (s.signOnLimitExpires p).link.secondsDown = s.link.secondsDown ∧
    (s.signOnLimitExpires p).link.downExpired = s.link.downExpired ∧
    (s.signOnLimitExpires p).link.limits = s.link.limits := by
  unfold State.signOnLimitExpires
  repeat' (first | split | simp only [])
  all_goals simp

/-- What `State.waitLimitExpires` leaves as it was. -/
@[simp] theorem State.waitLimitExpires_frame (s : State) (p : Port) :
    (s.waitLimitExpires p).policies = s.policies ∧ (s.waitLimitExpires p).accounts = s.accounts ∧
    (s.waitLimitExpires p).classes = s.classes ∧ (s.waitLimitExpires p).messages = s.messages ∧
    (s.waitLimitExpires p).sessions = s.sessions ∧ (s.waitLimitExpires p).nextNumber = s.nextNumber ∧
    (s.waitLimitExpires p).bills = s.bills ∧ (s.waitLimitExpires p).draws = s.draws ∧
    (s.waitLimitExpires p).pending = s.pending ∧ (s.waitLimitExpires p).tariff = s.tariff ∧
    (s.waitLimitExpires p).link.assembler = s.link.assembler ∧
    (s.waitLimitExpires p).link.heldOrder = s.link.heldOrder ∧
    (s.waitLimitExpires p).link.replyPath = s.link.replyPath ∧
    (s.waitLimitExpires p).link.sending = s.link.sending ∧ (s.waitLimitExpires p).link.enables = s.link.enables ∧
    (s.waitLimitExpires p).link.host = s.link.host ∧
    (s.waitLimitExpires p).link.timeoutRunning = s.link.timeoutRunning ∧
    (s.waitLimitExpires p).link.downRemaining = s.link.downRemaining ∧
    (s.waitLimitExpires p).link.secondsDown = s.link.secondsDown ∧
    (s.waitLimitExpires p).link.downExpired = s.link.downExpired ∧
    (s.waitLimitExpires p).link.limits = s.link.limits := by
  unfold State.waitLimitExpires
  repeat' (first | split | simp only [])
  all_goals simp

/-- What `State.holdExpires` leaves as it was. -/
@[simp] theorem State.holdExpires_frame (s : State) (n : Nat) :
    (s.holdExpires n).policies = s.policies ∧ (s.holdExpires n).classes = s.classes ∧
    (s.holdExpires n).messages = s.messages ∧ (s.holdExpires n).draws = s.draws ∧
    (s.holdExpires n).pending = s.pending ∧ (s.holdExpires n).tariff.clockValid = s.tariff.clockValid ∧
    (s.holdExpires n).tariff.clock = s.tariff.clock ∧ (s.holdExpires n).tariff.active = s.tariff.active ∧
    (s.holdExpires n).tariff.standby = s.tariff.standby ∧
    (s.holdExpires n).tariff.activePresent = s.tariff.activePresent ∧
    (s.holdExpires n).tariff.commit = s.tariff.commit ∧ (s.holdExpires n).tariff.period = s.tariff.period ∧
    (s.holdExpires n).tariff.steps = s.tariff.steps ∧ (s.holdExpires n).link.assembler = s.link.assembler ∧
    (s.holdExpires n).link.heldOrder = s.link.heldOrder ∧ (s.holdExpires n).link.replyPath = s.link.replyPath ∧
    (s.holdExpires n).link.sending = s.link.sending ∧ (s.holdExpires n).link.enables = s.link.enables ∧
    (s.holdExpires n).link.host = s.link.host ∧ (s.holdExpires n).link.timeoutRunning = s.link.timeoutRunning ∧
    (s.holdExpires n).link.downRemaining = s.link.downRemaining ∧
    (s.holdExpires n).link.secondsDown = s.link.secondsDown ∧
    (s.holdExpires n).link.downExpired = s.link.downExpired ∧ (s.holdExpires n).link.limits = s.link.limits := by
  unfold State.holdExpires
  repeat' (first | split | simp only [])
  all_goals simp

/-- What `State.idleLimitExpires` leaves as it was. -/
@[simp] theorem State.idleLimitExpires_frame (s : State) (n : Nat) :
    (s.idleLimitExpires n).policies = s.policies ∧ (s.idleLimitExpires n).classes = s.classes ∧
    (s.idleLimitExpires n).messages = s.messages ∧ (s.idleLimitExpires n).draws = s.draws ∧
    (s.idleLimitExpires n).pending = s.pending ∧ (s.idleLimitExpires n).tariff.clockValid = s.tariff.clockValid ∧
    (s.idleLimitExpires n).tariff.clock = s.tariff.clock ∧ (s.idleLimitExpires n).tariff.active = s.tariff.active ∧
    (s.idleLimitExpires n).tariff.standby = s.tariff.standby ∧
    (s.idleLimitExpires n).tariff.activePresent = s.tariff.activePresent ∧
    (s.idleLimitExpires n).tariff.commit = s.tariff.commit ∧
    (s.idleLimitExpires n).tariff.period = s.tariff.period ∧ (s.idleLimitExpires n).tariff.steps = s.tariff.steps ∧
    (s.idleLimitExpires n).link.assembler = s.link.assembler ∧
    (s.idleLimitExpires n).link.heldOrder = s.link.heldOrder ∧
    (s.idleLimitExpires n).link.replyPath = s.link.replyPath ∧
    (s.idleLimitExpires n).link.sending = s.link.sending ∧ (s.idleLimitExpires n).link.enables = s.link.enables ∧
    (s.idleLimitExpires n).link.host = s.link.host ∧
    (s.idleLimitExpires n).link.timeoutRunning = s.link.timeoutRunning ∧
    (s.idleLimitExpires n).link.downRemaining = s.link.downRemaining ∧
    (s.idleLimitExpires n).link.secondsDown = s.link.secondsDown ∧
    (s.idleLimitExpires n).link.downExpired = s.link.downExpired ∧
    (s.idleLimitExpires n).link.limits = s.link.limits := by
  unfold State.idleLimitExpires
  repeat' (first | split | simp only [])
  all_goals simp

/-- What `State.graceExpires` leaves as it was. -/
@[simp] theorem State.graceExpires_frame (s : State) (n : Nat) :
    (s.graceExpires n).policies = s.policies ∧ (s.graceExpires n).classes = s.classes ∧
    (s.graceExpires n).messages = s.messages ∧ (s.graceExpires n).draws = s.draws ∧
    (s.graceExpires n).pending = s.pending ∧ (s.graceExpires n).tariff.clockValid = s.tariff.clockValid ∧
    (s.graceExpires n).tariff.clock = s.tariff.clock ∧ (s.graceExpires n).tariff.active = s.tariff.active ∧
    (s.graceExpires n).tariff.standby = s.tariff.standby ∧
    (s.graceExpires n).tariff.activePresent = s.tariff.activePresent ∧
    (s.graceExpires n).tariff.commit = s.tariff.commit ∧ (s.graceExpires n).tariff.period = s.tariff.period ∧
    (s.graceExpires n).tariff.steps = s.tariff.steps ∧ (s.graceExpires n).link.assembler = s.link.assembler ∧
    (s.graceExpires n).link.heldOrder = s.link.heldOrder ∧ (s.graceExpires n).link.replyPath = s.link.replyPath ∧
    (s.graceExpires n).link.sending = s.link.sending ∧ (s.graceExpires n).link.enables = s.link.enables ∧
    (s.graceExpires n).link.host = s.link.host ∧ (s.graceExpires n).link.timeoutRunning = s.link.timeoutRunning ∧
    (s.graceExpires n).link.downRemaining = s.link.downRemaining ∧
    (s.graceExpires n).link.secondsDown = s.link.secondsDown ∧
    (s.graceExpires n).link.downExpired = s.link.downExpired ∧ (s.graceExpires n).link.limits = s.link.limits := by
  unfold State.graceExpires
  repeat' (first | split | simp only [])
  all_goals simp

/-- What `State.countdownExpires` leaves as it was. -/
@[simp] theorem State.countdownExpires_frame (s : State) (n : Nat) :
    (s.countdownExpires n).policies = s.policies ∧ (s.countdownExpires n).classes = s.classes ∧
    (s.countdownExpires n).messages = s.messages ∧ (s.countdownExpires n).draws = s.draws ∧
    (s.countdownExpires n).pending = s.pending ∧ (s.countdownExpires n).tariff.clockValid = s.tariff.clockValid ∧
    (s.countdownExpires n).tariff.clock = s.tariff.clock ∧ (s.countdownExpires n).tariff.active = s.tariff.active ∧
    (s.countdownExpires n).tariff.standby = s.tariff.standby ∧
    (s.countdownExpires n).tariff.activePresent = s.tariff.activePresent ∧
    (s.countdownExpires n).tariff.commit = s.tariff.commit ∧
    (s.countdownExpires n).tariff.period = s.tariff.period ∧ (s.countdownExpires n).tariff.steps = s.tariff.steps ∧
    (s.countdownExpires n).link.assembler = s.link.assembler ∧
    (s.countdownExpires n).link.heldOrder = s.link.heldOrder ∧
    (s.countdownExpires n).link.replyPath = s.link.replyPath ∧
    (s.countdownExpires n).link.sending = s.link.sending ∧ (s.countdownExpires n).link.enables = s.link.enables ∧
    (s.countdownExpires n).link.host = s.link.host ∧
    (s.countdownExpires n).link.timeoutRunning = s.link.timeoutRunning ∧
    (s.countdownExpires n).link.downRemaining = s.link.downRemaining ∧
    (s.countdownExpires n).link.secondsDown = s.link.secondsDown ∧
    (s.countdownExpires n).link.downExpired = s.link.downExpired ∧
    (s.countdownExpires n).link.limits = s.link.limits := by
  unfold State.countdownExpires
  repeat' (first | split | simp only [])
  all_goals simp

/-- What `State.closeAll` leaves as it was. -/
@[simp] theorem State.closeAll_frame (ns : List Nat) (c : Cause) (s : State) :
    (ns.foldl (fun q n => q.closeAndAct n c) s).policies = s.policies ∧
    (ns.foldl (fun q n => q.closeAndAct n c) s).classes = s.classes ∧
    (ns.foldl (fun q n => q.closeAndAct n c) s).messages = s.messages ∧
    (ns.foldl (fun q n => q.closeAndAct n c) s).draws = s.draws ∧
    (ns.foldl (fun q n => q.closeAndAct n c) s).pending = s.pending ∧
    (ns.foldl (fun q n => q.closeAndAct n c) s).tariff.clockValid = s.tariff.clockValid ∧
    (ns.foldl (fun q n => q.closeAndAct n c) s).tariff.clock = s.tariff.clock ∧
    (ns.foldl (fun q n => q.closeAndAct n c) s).tariff.active = s.tariff.active ∧
    (ns.foldl (fun q n => q.closeAndAct n c) s).tariff.standby = s.tariff.standby ∧
    (ns.foldl (fun q n => q.closeAndAct n c) s).tariff.activePresent = s.tariff.activePresent ∧
    (ns.foldl (fun q n => q.closeAndAct n c) s).tariff.commit = s.tariff.commit ∧
    (ns.foldl (fun q n => q.closeAndAct n c) s).tariff.period = s.tariff.period ∧
    (ns.foldl (fun q n => q.closeAndAct n c) s).tariff.steps = s.tariff.steps ∧
    (ns.foldl (fun q n => q.closeAndAct n c) s).link.assembler = s.link.assembler ∧
    (ns.foldl (fun q n => q.closeAndAct n c) s).link.heldOrder = s.link.heldOrder ∧
    (ns.foldl (fun q n => q.closeAndAct n c) s).link.replyPath = s.link.replyPath ∧
    (ns.foldl (fun q n => q.closeAndAct n c) s).link.sending = s.link.sending ∧
    (ns.foldl (fun q n => q.closeAndAct n c) s).link.enables = s.link.enables ∧
    (ns.foldl (fun q n => q.closeAndAct n c) s).link.host = s.link.host ∧
    (ns.foldl (fun q n => q.closeAndAct n c) s).link.timeoutRunning = s.link.timeoutRunning ∧
    (ns.foldl (fun q n => q.closeAndAct n c) s).link.downRemaining = s.link.downRemaining ∧
    (ns.foldl (fun q n => q.closeAndAct n c) s).link.secondsDown = s.link.secondsDown ∧
    (ns.foldl (fun q n => q.closeAndAct n c) s).link.downExpired = s.link.downExpired ∧
    (ns.foldl (fun q n => q.closeAndAct n c) s).link.limits = s.link.limits := by
  induction ns generalizing s with
  | nil => simp
  | cons n rest ih => simp [ih]

/-- What `State.loseSessions` leaves as it was. -/
@[simp] theorem State.loseSessions_frame (s : State) :
    (s.loseSessions).policies = s.policies ∧ (s.loseSessions).classes = s.classes ∧
    (s.loseSessions).messages = s.messages ∧ (s.loseSessions).pending = s.pending ∧
    (s.loseSessions).tariff.clockValid = s.tariff.clockValid ∧ (s.loseSessions).tariff.clock = s.tariff.clock ∧
    (s.loseSessions).tariff.active = s.tariff.active ∧ (s.loseSessions).tariff.standby = s.tariff.standby ∧
    (s.loseSessions).tariff.activePresent = s.tariff.activePresent ∧
    (s.loseSessions).tariff.commit = s.tariff.commit ∧ (s.loseSessions).tariff.period = s.tariff.period ∧
    (s.loseSessions).tariff.steps = s.tariff.steps ∧ (s.loseSessions).link.assembler = s.link.assembler ∧
    (s.loseSessions).link.heldOrder = s.link.heldOrder ∧ (s.loseSessions).link.replyPath = s.link.replyPath ∧
    (s.loseSessions).link.sending = s.link.sending ∧ (s.loseSessions).link.enables = s.link.enables ∧
    (s.loseSessions).link.host = s.link.host ∧ (s.loseSessions).link.timeoutRunning = s.link.timeoutRunning ∧
    (s.loseSessions).link.downRemaining = s.link.downRemaining ∧
    (s.loseSessions).link.secondsDown = s.link.secondsDown ∧
    (s.loseSessions).link.downExpired = s.link.downExpired ∧ (s.loseSessions).link.limits = s.link.limits := by
  unfold State.loseSessions
  simp

/-- What `State.hostDownLimitExpires` leaves as it was. -/
@[simp] theorem State.hostDownLimitExpires_frame (s : State) :
    (s.hostDownLimitExpires).policies = s.policies ∧ (s.hostDownLimitExpires).classes = s.classes ∧
    (s.hostDownLimitExpires).messages = s.messages ∧ (s.hostDownLimitExpires).pending = s.pending ∧
    (s.hostDownLimitExpires).tariff.clockValid = s.tariff.clockValid ∧
    (s.hostDownLimitExpires).tariff.clock = s.tariff.clock ∧
    (s.hostDownLimitExpires).tariff.active = s.tariff.active ∧
    (s.hostDownLimitExpires).tariff.standby = s.tariff.standby ∧
    (s.hostDownLimitExpires).tariff.activePresent = s.tariff.activePresent ∧
    (s.hostDownLimitExpires).tariff.commit = s.tariff.commit ∧
    (s.hostDownLimitExpires).tariff.period = s.tariff.period ∧
    (s.hostDownLimitExpires).tariff.steps = s.tariff.steps ∧
    (s.hostDownLimitExpires).link.assembler = s.link.assembler ∧
    (s.hostDownLimitExpires).link.heldOrder = s.link.heldOrder ∧
    (s.hostDownLimitExpires).link.replyPath = s.link.replyPath ∧
    (s.hostDownLimitExpires).link.sending = s.link.sending ∧
    (s.hostDownLimitExpires).link.enables = s.link.enables ∧ (s.hostDownLimitExpires).link.host = s.link.host ∧
    (s.hostDownLimitExpires).link.timeoutRunning = s.link.timeoutRunning ∧
    (s.hostDownLimitExpires).link.secondsDown = s.link.secondsDown ∧
    (s.hostDownLimitExpires).link.limits = s.link.limits := by
  unfold State.hostDownLimitExpires
  repeat' (first | split | simp only [])
  all_goals simp

/-- What `State.linkTimeoutExpires` leaves as it was. -/
@[simp] theorem State.linkTimeoutExpires_frame (s : State) :
    (s.linkTimeoutExpires).policies = s.policies ∧ (s.linkTimeoutExpires).accounts = s.accounts ∧
    (s.linkTimeoutExpires).classes = s.classes ∧ (s.linkTimeoutExpires).messages = s.messages ∧
    (s.linkTimeoutExpires).nextNumber = s.nextNumber ∧ (s.linkTimeoutExpires).bills = s.bills ∧
    (s.linkTimeoutExpires).draws = s.draws ∧ (s.linkTimeoutExpires).pending = s.pending ∧
    (s.linkTimeoutExpires).tariff = s.tariff ∧ (s.linkTimeoutExpires).link.assembler = s.link.assembler ∧
    (s.linkTimeoutExpires).link.heldOrder = s.link.heldOrder ∧
    (s.linkTimeoutExpires).link.replyPath = s.link.replyPath ∧
    (s.linkTimeoutExpires).link.sending = s.link.sending ∧ (s.linkTimeoutExpires).link.enables = s.link.enables ∧
    (s.linkTimeoutExpires).link.limits = s.link.limits := by
  unfold State.linkTimeoutExpires
  repeat' (first | split | simp only [])
  all_goals simp

/-! ## Marks -/

/-- What `State.countMark` leaves as it was. -/
@[simp] theorem State.countMark_frame (s : State) :
    (s.countMark).policies = s.policies ∧ (s.countMark).classes = s.classes ∧ (s.countMark).messages = s.messages ∧
    (s.countMark).waitQueue = s.waitQueue ∧ (s.countMark).inputWait = s.inputWait ∧
    (s.countMark).sessions = s.sessions ∧ (s.countMark).nextNumber = s.nextNumber ∧ (s.countMark).bills = s.bills ∧
    (s.countMark).draws = s.draws ∧ (s.countMark).pending = s.pending ∧ (s.countMark).tariff = s.tariff ∧
    (s.countMark).link.assembler = s.link.assembler ∧ (s.countMark).link.heldOrder = s.link.heldOrder ∧
    (s.countMark).link.replyPath = s.link.replyPath ∧ (s.countMark).link.sending = s.link.sending ∧
    (s.countMark).link.reports = s.link.reports ∧ (s.countMark).link.lost = s.link.lost ∧
    (s.countMark).link.enables = s.link.enables ∧ (s.countMark).link.host = s.link.host ∧
    (s.countMark).link.timeoutRunning = s.link.timeoutRunning ∧
    (s.countMark).link.downExpired = s.link.downExpired ∧ (s.countMark).link.limits = s.link.limits := by
  unfold State.countMark Link.countMark
  simp only []
  split <;> simp

/-- What `State.countIdle` leaves as it was. -/
@[simp] theorem State.countIdle_frame (s : State) (n : Nat) :
    ((s.countIdle n).1).policies = s.policies ∧ ((s.countIdle n).1).classes = s.classes ∧
    ((s.countIdle n).1).messages = s.messages ∧ ((s.countIdle n).1).draws = s.draws ∧
    ((s.countIdle n).1).pending = s.pending ∧ ((s.countIdle n).1).tariff.clockValid = s.tariff.clockValid ∧
    ((s.countIdle n).1).tariff.clock = s.tariff.clock ∧ ((s.countIdle n).1).tariff.active = s.tariff.active ∧
    ((s.countIdle n).1).tariff.standby = s.tariff.standby ∧
    ((s.countIdle n).1).tariff.activePresent = s.tariff.activePresent ∧
    ((s.countIdle n).1).tariff.commit = s.tariff.commit ∧ ((s.countIdle n).1).tariff.period = s.tariff.period ∧
    ((s.countIdle n).1).tariff.steps = s.tariff.steps ∧ ((s.countIdle n).1).link.assembler = s.link.assembler ∧
    ((s.countIdle n).1).link.heldOrder = s.link.heldOrder ∧ ((s.countIdle n).1).link.replyPath = s.link.replyPath ∧
    ((s.countIdle n).1).link.sending = s.link.sending ∧ ((s.countIdle n).1).link.enables = s.link.enables ∧
    ((s.countIdle n).1).link.host = s.link.host ∧ ((s.countIdle n).1).link.timeoutRunning = s.link.timeoutRunning ∧
    ((s.countIdle n).1).link.downRemaining = s.link.downRemaining ∧
    ((s.countIdle n).1).link.secondsDown = s.link.secondsDown ∧
    ((s.countIdle n).1).link.downExpired = s.link.downExpired ∧ ((s.countIdle n).1).link.limits = s.link.limits := by
  unfold State.countIdle
  repeat' (first | split | simp only [])
  all_goals simp

/-- What `State.sessionShare` leaves as it was. -/
@[simp] theorem State.sessionShare_frame (s : State) (n : Nat) (c : Bool) (m : Latch) :
    (s.sessionShare n c m).policies = s.policies ∧ (s.sessionShare n c m).classes = s.classes ∧
    (s.sessionShare n c m).messages = s.messages ∧ (s.sessionShare n c m).draws = s.draws ∧
    (s.sessionShare n c m).pending = s.pending ∧ (s.sessionShare n c m).tariff.clockValid = s.tariff.clockValid ∧
    (s.sessionShare n c m).tariff.clock = s.tariff.clock ∧ (s.sessionShare n c m).tariff.active = s.tariff.active ∧
    (s.sessionShare n c m).tariff.standby = s.tariff.standby ∧
    (s.sessionShare n c m).tariff.activePresent = s.tariff.activePresent ∧
    (s.sessionShare n c m).tariff.commit = s.tariff.commit ∧
    (s.sessionShare n c m).tariff.period = s.tariff.period ∧ (s.sessionShare n c m).tariff.steps = s.tariff.steps ∧
    (s.sessionShare n c m).link.assembler = s.link.assembler ∧
    (s.sessionShare n c m).link.heldOrder = s.link.heldOrder ∧
    (s.sessionShare n c m).link.replyPath = s.link.replyPath ∧
    (s.sessionShare n c m).link.sending = s.link.sending ∧ (s.sessionShare n c m).link.enables = s.link.enables ∧
    (s.sessionShare n c m).link.host = s.link.host ∧
    (s.sessionShare n c m).link.timeoutRunning = s.link.timeoutRunning ∧
    (s.sessionShare n c m).link.downRemaining = s.link.downRemaining ∧
    (s.sessionShare n c m).link.secondsDown = s.link.secondsDown ∧
    (s.sessionShare n c m).link.downExpired = s.link.downExpired ∧
    (s.sessionShare n c m).link.limits = s.link.limits := by
  unfold State.sessionShare
  split
  · simp
  · rename_i x _
    split
    · have hc := State.chargeSecond_frame
        (s.mapSession n (fun y => { y with metered := restAt Config.maxMoney (y.metered + 1) })) n c
      try simp only []
      split
      · rename_i s2 k heq
        rw [heq] at hc
        simp at hc
        simp [hc]
      · rename_i s2 heq
        rw [heq] at hc
        simp at hc
        have hi := State.countIdle_frame s2 n
        split
        · rename_i s3 heq2
          rw [heq2] at hi
          simp at hi
          simp [hi, hc]
        · rename_i s3 heq2
          rw [heq2] at hi
          simp at hi
          simp [hi, hc]
    · simp
    · simp only []
      split <;> simp

/-- What `State.runTask` leaves as it was. -/
@[simp] theorem State.runTask_frame (s : State) (m : Latch) (t : MarkTask) :
    (s.runTask m t).policies = s.policies ∧ (s.runTask m t).classes = s.classes ∧
    (s.runTask m t).messages = s.messages ∧ (s.runTask m t).pending = s.pending ∧
    (s.runTask m t).tariff.clockValid = s.tariff.clockValid ∧ (s.runTask m t).tariff.clock = s.tariff.clock ∧
    (s.runTask m t).tariff.active = s.tariff.active ∧ (s.runTask m t).tariff.standby = s.tariff.standby ∧
    (s.runTask m t).tariff.activePresent = s.tariff.activePresent ∧
    (s.runTask m t).tariff.commit = s.tariff.commit ∧ (s.runTask m t).tariff.period = s.tariff.period ∧
    (s.runTask m t).tariff.steps = s.tariff.steps ∧ (s.runTask m t).link.assembler = s.link.assembler ∧
    (s.runTask m t).link.heldOrder = s.link.heldOrder ∧ (s.runTask m t).link.replyPath = s.link.replyPath ∧
    (s.runTask m t).link.sending = s.link.sending ∧ (s.runTask m t).link.enables = s.link.enables ∧
    (s.runTask m t).link.host = s.link.host ∧ (s.runTask m t).link.timeoutRunning = s.link.timeoutRunning ∧
    (s.runTask m t).link.secondsDown = s.link.secondsDown ∧ (s.runTask m t).link.limits = s.link.limits := by
  unfold State.runTask
  repeat' (first | split | simp only [])
  all_goals simp

/-- What `State.runTasks` leaves as it was. -/
@[simp] theorem State.runTasks_frame (ts : List MarkTask) (m : Latch) (s : State) :
    (s.runTasks m ts).policies = s.policies ∧ (s.runTasks m ts).classes = s.classes ∧
    (s.runTasks m ts).messages = s.messages ∧ (s.runTasks m ts).pending = s.pending ∧
    (s.runTasks m ts).tariff.clockValid = s.tariff.clockValid ∧ (s.runTasks m ts).tariff.clock = s.tariff.clock ∧
    (s.runTasks m ts).tariff.active = s.tariff.active ∧ (s.runTasks m ts).tariff.standby = s.tariff.standby ∧
    (s.runTasks m ts).tariff.activePresent = s.tariff.activePresent ∧
    (s.runTasks m ts).tariff.commit = s.tariff.commit ∧ (s.runTasks m ts).tariff.period = s.tariff.period ∧
    (s.runTasks m ts).tariff.steps = s.tariff.steps ∧ (s.runTasks m ts).link.assembler = s.link.assembler ∧
    (s.runTasks m ts).link.heldOrder = s.link.heldOrder ∧ (s.runTasks m ts).link.replyPath = s.link.replyPath ∧
    (s.runTasks m ts).link.sending = s.link.sending ∧ (s.runTasks m ts).link.enables = s.link.enables ∧
    (s.runTasks m ts).link.host = s.link.host ∧ (s.runTasks m ts).link.timeoutRunning = s.link.timeoutRunning ∧
    (s.runTasks m ts).link.secondsDown = s.link.secondsDown ∧ (s.runTasks m ts).link.limits = s.link.limits := by
  unfold State.runTasks
  induction ts generalizing s with
  | nil => simp
  | cons t rest ih => simp [ih]

/-- What `State.relatches` leaves as it was. -/
@[simp] theorem State.relatches_frame (w : Nat → Latch) (ns : List Nat) (s : State) :
    (ns.foldl (fun q n => q.relatch n (w n)) s).lines = s.lines ∧
    (ns.foldl (fun q n => q.relatch n (w n)) s).policies = s.policies ∧
    (ns.foldl (fun q n => q.relatch n (w n)) s).accounts = s.accounts ∧
    (ns.foldl (fun q n => q.relatch n (w n)) s).classes = s.classes ∧
    (ns.foldl (fun q n => q.relatch n (w n)) s).messages = s.messages ∧
    (ns.foldl (fun q n => q.relatch n (w n)) s).waitQueue = s.waitQueue ∧
    (ns.foldl (fun q n => q.relatch n (w n)) s).inputWait = s.inputWait ∧
    (ns.foldl (fun q n => q.relatch n (w n)) s).nextNumber = s.nextNumber ∧
    (ns.foldl (fun q n => q.relatch n (w n)) s).bills = s.bills ∧ (ns.foldl (fun q n => q.relatch n (w n)) s).draws = s.draws ∧
    (ns.foldl (fun q n => q.relatch n (w n)) s).pending = s.pending ∧
    (ns.foldl (fun q n => q.relatch n (w n)) s).tariff = s.tariff ∧ (ns.foldl (fun q n => q.relatch n (w n)) s).link = s.link := by
  induction ns generalizing s with
  | nil => simp
  | cons n rest ih => simp [ih]

/-- What `State.tariffShare` leaves as it was. -/
@[simp] theorem State.tariffShare_frame (s : State) (w : Bool) (ds ts : List MarkTask) :
    (s.tariffShare w ds ts).policies = s.policies ∧ (s.tariffShare w ds ts).accounts = s.accounts ∧
    (s.tariffShare w ds ts).classes = s.classes ∧ (s.tariffShare w ds ts).messages = s.messages ∧
    (s.tariffShare w ds ts).waitQueue = s.waitQueue ∧ (s.tariffShare w ds ts).inputWait = s.inputWait ∧
    (s.tariffShare w ds ts).nextNumber = s.nextNumber ∧ (s.tariffShare w ds ts).bills = s.bills ∧
    (s.tariffShare w ds ts).draws = s.draws ∧ (s.tariffShare w ds ts).pending = s.pending ∧
    (s.tariffShare w ds ts).tariff.clockValid = s.tariff.clockValid ∧
    (s.tariffShare w ds ts).tariff.clock = s.tariff.clock ∧ (s.tariffShare w ds ts).tariff.standby = s.tariff.standby ∧
    (s.tariffShare w ds ts).tariff.steps = s.tariff.steps ∧ (s.tariffShare w ds ts).tariff.band = s.tariff.band ∧
    (s.tariffShare w ds ts).link.assembler = s.link.assembler ∧ (s.tariffShare w ds ts).link.heldOrder = s.link.heldOrder ∧
    (s.tariffShare w ds ts).link.replyPath = s.link.replyPath ∧ (s.tariffShare w ds ts).link.sending = s.link.sending ∧
    (s.tariffShare w ds ts).link.enables = s.link.enables ∧ (s.tariffShare w ds ts).link.host = s.link.host ∧
    (s.tariffShare w ds ts).link.timeoutRunning = s.link.timeoutRunning ∧
    (s.tariffShare w ds ts).link.downRemaining = s.link.downRemaining ∧
    (s.tariffShare w ds ts).link.secondsDown = s.link.secondsDown ∧
    (s.tariffShare w ds ts).link.downExpired = s.link.downExpired ∧
    (s.tariffShare w ds ts).link.limits = s.link.limits := by
  unfold State.tariffShare
  simp

/-- What `State.runMinute` leaves as it was. -/
@[simp] theorem State.runMinute_frame (s : State) (w : Bool) (k : Nat) (ts : List MarkTask) :
    (s.runMinute w k ts).policies = s.policies ∧ (s.runMinute w k ts).classes = s.classes ∧
    (s.runMinute w k ts).messages = s.messages ∧ (s.runMinute w k ts).pending = s.pending ∧
    (s.runMinute w k ts).tariff.clockValid = s.tariff.clockValid ∧
    (s.runMinute w k ts).tariff.clock = s.tariff.clock ∧ (s.runMinute w k ts).tariff.standby = s.tariff.standby ∧
    (s.runMinute w k ts).tariff.steps = s.tariff.steps ∧ (s.runMinute w k ts).link.assembler = s.link.assembler ∧
    (s.runMinute w k ts).link.heldOrder = s.link.heldOrder ∧ (s.runMinute w k ts).link.replyPath = s.link.replyPath ∧
    (s.runMinute w k ts).link.sending = s.link.sending ∧ (s.runMinute w k ts).link.enables = s.link.enables ∧
    (s.runMinute w k ts).link.host = s.link.host ∧ (s.runMinute w k ts).link.timeoutRunning = s.link.timeoutRunning ∧
    (s.runMinute w k ts).link.secondsDown = s.link.secondsDown ∧
    (s.runMinute w k ts).link.limits = s.link.limits := by
  unfold State.runMinute
  simp

/-- What `State.secondMark` leaves as it was. -/
@[simp] theorem State.secondMark_frame (s : State) :
    (s.secondMark).policies = s.policies ∧ (s.secondMark).classes = s.classes ∧
    (s.secondMark).messages = s.messages ∧ (s.secondMark).pending = s.pending ∧
    (s.secondMark).tariff.clockValid = s.tariff.clockValid ∧ (s.secondMark).tariff.standby = s.tariff.standby ∧
    (s.secondMark).tariff.steps = s.tariff.steps ∧ (s.secondMark).link.assembler = s.link.assembler ∧
    (s.secondMark).link.heldOrder = s.link.heldOrder ∧ (s.secondMark).link.replyPath = s.link.replyPath ∧
    (s.secondMark).link.sending = s.link.sending ∧ (s.secondMark).link.enables = s.link.enables ∧
    (s.secondMark).link.host = s.link.host ∧ (s.secondMark).link.timeoutRunning = s.link.timeoutRunning ∧
    (s.secondMark).link.limits = s.link.limits := by
  unfold State.secondMark
  simp only []
  split <;> simp

end Sys2Proof.Machine
end

