-- ==== Sys2Proof/Laws/State.lean ====
section
/-! SUPPORT. The named record updates, field by field (each true by unfolding one definition), and the lemmas of the list
operations that the tables are made of. -/

namespace Sys2Proof.Machine

/-! ## The queue of commands -/

/-- What a change of the queue leaves. -/
@[simp] theorem State.withPending_fields (s : State) (q : List Instr) :
    (s.withPending q).pending = q ∧ (s.withPending q).lines = s.lines ∧ (s.withPending q).policies = s.policies ∧
    (s.withPending q).accounts = s.accounts ∧ (s.withPending q).classes = s.classes ∧
    (s.withPending q).messages = s.messages ∧ (s.withPending q).waitQueue = s.waitQueue ∧
    (s.withPending q).inputWait = s.inputWait ∧ (s.withPending q).sessions = s.sessions ∧
    (s.withPending q).nextNumber = s.nextNumber ∧ (s.withPending q).tariff = s.tariff ∧
    (s.withPending q).bills = s.bills ∧ (s.withPending q).link = s.link ∧ (s.withPending q).draws = s.draws :=
  ⟨rfl, rfl, rfl, rfl, rfl, rfl, rfl, rfl, rfl, rfl, rfl, rfl, rfl, rfl⟩

/-- No word spells a command, so that no word changes the state. -/
@[simp] theorem State.withFetchWord_eq (s : State) (nbits w : Nat) : s.withFetchWord nbits w = s := rfl

/-! ## Lines -/

/-- A line that has entered IDLE (R4, R7). -/
@[simp] theorem Line.enterIdle_fields (l : Line) :
    l.enterIdle.state = .idle ∧ l.enterIdle.ringCount = 0 ∧ l.enterIdle.phase = .on ∧ l.enterIdle.stuckHold = false ∧
    l.enterIdle.window = none ∧ l.enterIdle.destination = .idle ∧ l.enterIdle.retryCount = l.retryCount ∧
    l.enterIdle.holder = l.holder ∧ l.enterIdle.output = l.output ∧ l.enterIdle.lastEvent = l.lastEvent ∧
    l.enterIdle.ringInput = l.ringInput ∧ l.enterIdle.carrierInput = l.carrierInput :=
  ⟨rfl, rfl, rfl, rfl, rfl, rfl, rfl, rfl, rfl, rfl, rfl, rfl⟩

/-- What a stopped detector leaves (R4). -/
@[simp] theorem Line.stopDetector_fields (l : Line) :
    l.stopDetector.state = l.state ∧ l.stopDetector.phase = .on ∧ l.stopDetector.stuckHold = false ∧
    l.stopDetector.ringCount = l.ringCount ∧ l.stopDetector.holder = l.holder ∧ l.stopDetector.output = l.output ∧
    l.stopDetector.retryCount = l.retryCount ∧ l.stopDetector.lastEvent = l.lastEvent :=
  ⟨rfl, rfl, rfl, rfl, rfl, rfl, rfl, rfl⟩

/-- What going on hook takes from a line, and what it leaves (R1, R2, R23, R47, R52). -/
@[simp] theorem Line.releaseCall_fields (l : Line) :
    l.releaseCall.speed = none ∧ l.releaseCall.parity = none ∧ l.releaseCall.holder = .none ∧ l.releaseCall.output = [] ∧
    l.releaseCall.partialRecord = {} ∧ l.releaseCall.waitingRecord = none ∧ l.releaseCall.drainWanted = false ∧
    l.releaseCall.noiseCount = 0 ∧ l.releaseCall.noiseWindow = none ∧ l.releaseCall.space = .none ∧
    l.releaseCall.state = l.state ∧ l.releaseCall.retryCount = l.retryCount ∧
    l.releaseCall.lastEvent = l.lastEvent ∧ l.releaseCall.answerRingCount = l.answerRingCount ∧
    l.releaseCall.parityCheck = l.parityCheck ∧ l.releaseCall.substitute = l.substitute :=
  ⟨rfl, rfl, rfl, rfl, rfl, rfl, rfl, rfl, rfl, rfl, rfl, rfl, rfl, rfl, rfl, rfl⟩

/-- What pending settings change when they take effect (R48). -/
@[simp] theorem Line.applyPending_fields (l : Line) :
    l.applyPending.pendingSettings = none ∧ l.applyPending.settings = l.pendingSettings.getD l.settings ∧
    l.applyPending.state = l.state ∧ l.applyPending.output = l.output ∧ l.applyPending.holder = l.holder ∧
    l.applyPending.waitingRecord = l.waitingRecord ∧ l.applyPending.partialRecord = l.partialRecord ∧
    l.applyPending.echo = l.echo ∧ l.applyPending.drainWanted = l.drainWanted :=
  ⟨rfl, rfl, rfl, rfl, rfl, rfl, rfl, rfl, rfl⟩

/-- What the end of a waiting record changes (R38, R39, R48). -/
@[simp] theorem Line.clearWaiting_fields (l : Line) :
    l.clearWaiting.waitingRecord = none ∧ l.clearWaiting.state = l.state ∧ l.clearWaiting.output = l.output ∧
    l.clearWaiting.holder = l.holder ∧ l.clearWaiting.partialRecord = l.partialRecord ∧
    l.clearWaiting.drainWanted = l.drainWanted := by
  unfold Line.clearWaiting
  split <;> simp

/-! ## Tables: the first record of a key -/

/-- A change of one record leaves a table's length. -/
@[simp] theorem length_changeFirst {α : Type} (is : α → Bool) (f : α → α) (xs : List α) :
    (changeFirst is f xs).length = xs.length := by
  induction xs with
  | nil => rfl
  | cons x rest ih => unfold changeFirst; split <;> simp [ih]

/-- What a changed table holds: the records it held, but for the first of the key, which is the changed one. -/
theorem mem_changeFirst {α : Type} {is : α → Bool} {f : α → α} {xs : List α} {y : α} (h : y ∈ changeFirst is f xs) :
    y ∈ xs ∨ ∃ x, xs.find? is = some x ∧ y = f x := by
  induction xs with
  | nil => simp [changeFirst] at h
  | cons x rest ih =>
    unfold changeFirst at h
    split at h
    · rename_i hx
      rcases List.mem_cons.mp h with rfl | h
      · exact .inr ⟨x, by simp [List.find?, hx], rfl⟩
      · exact .inl (List.mem_cons_of_mem _ h)
    · rename_i hx
      rcases List.mem_cons.mp h with rfl | h
      · exact .inl (List.mem_cons_self ..)
      · rcases ih h with h | ⟨z, hz, rfl⟩
        · exact .inl (List.mem_cons_of_mem _ h)
        · exact .inr ⟨z, by simp [List.find?, hx, hz], rfl⟩

/-- A table with no record of the key is left as it was. -/
theorem changeFirst_of_find_none {α : Type} {is : α → Bool} (f : α → α) {xs : List α} (h : xs.find? is = none) :
    changeFirst is f xs = xs := by
  induction xs with
  | nil => rfl
  | cons x rest ih =>
    have hx : is x = false := by
      cases hx : is x with
      | true => simp [List.find?, hx] at h
      | false => rfl
    have hr : rest.find? is = none := by simpa [List.find?, hx] using h
    unfold changeFirst
    simp [hx, ih hr]

/-- The changed record is found where the record was, if the change keeps its key. -/
theorem find_changeFirst_same {α : Type} {is : α → Bool} {f : α → α} {xs : List α} {x : α} (h : xs.find? is = some x)
    (hf : is (f x) = true) : (changeFirst is f xs).find? is = some (f x) := by
  induction xs with
  | nil => simp at h
  | cons y rest ih =>
    unfold changeFirst
    cases hy : is y with
    | true =>
      have : y = x := by simpa [List.find?, hy] using h
      subst this
      simp [hf]
    | false =>
      have h' : rest.find? is = some x := by simpa [List.find?, hy] using h
      simp [hy, ih h']

/-- The first record of another key is found as before, where the change keeps the key. -/
theorem find_changeFirst_other {α : Type} {is other : α → Bool} {f : α → α} (xs : List α)
    (hf : ∀ x, is x = true → other x = false ∧ other (f x) = false) : (changeFirst is f xs).find? other = xs.find? other := by
  induction xs with
  | nil => rfl
  | cons x rest ih =>
    unfold changeFirst
    split
    · rename_i hx
      simp [List.find?, hf x hx]
    · simp [List.find?, ih]

/-- A predicate of every record holds of every record of a changed table, if the change keeps it on the record changed. -/
theorem forall_changeFirst {α : Type} {P : α → Prop} {is : α → Bool} {f : α → α} {xs : List α} (h : ∀ x ∈ xs, P x)
    (hf : ∀ x, xs.find? is = some x → P x → P (f x)) : ∀ y ∈ changeFirst is f xs, P y := by
  intro y hy
  rcases mem_changeFirst hy with hy | ⟨x, hx, rfl⟩
  · exact h y hy
  · exact hf x hx (h x (List.mem_of_find?_eq_some hx))

/-! ## Free orders -/

/-- Every free order is an order of the same things. -/
theorem permute_perm {α : Type} (key : Nat → Nat) (xs : List α) : (permute key xs).Perm xs := by
  match xs with
  | [] => exact .refl _
  | [x] => exact .refl _
  | x :: y :: rest =>
    have ih := permute_perm key (y :: rest)
    have hlen : (permute key (y :: rest)).length = rest.length + 1 := by simpa using ih.length_eq
    refine (List.perm_insertIdx x (permute key (y :: rest)) ?_).trans (ih.cons x)
    rw [hlen]
    exact Nat.le_of_lt_succ (Nat.mod_lt _ (by omega))

/-- The order of a draw is an order of the same things. -/
theorem State.drawOrder_perm {α : Type} (s : State) (xs : List α) : (s.drawOrder xs).Perm xs := permute_perm _ xs

/-- The two parts of a cut list are the list. -/
theorem cut_append {α : Type} (xs : List α) (k : Nat) : (cut xs k).1 ++ (cut xs k).2 = xs := by
  induction xs generalizing k with
  | nil => rfl
  | cons x xs ih => cases k with
    | zero => rfl
    | succ k => simp [cut, ih]

@[simp] theorem cut_nil {α : Type} (k : Nat) : cut ([] : List α) k = ([], []) := by cases k <;> rfl

/-- One thing alone has one order. -/
@[simp] theorem State.drawOrder_singleton {α : Type} (s : State) (x : α) : s.drawOrder [x] = [x] := rfl

/-- Nothing has one order. -/
@[simp] theorem State.drawOrder_nil {α : Type} (s : State) : s.drawOrder ([] : List α) = [] := rfl

end Sys2Proof.Machine
end

