-- ==== Sys2Proof/Laws/Claims.lean ====
section
/-! SUPPORT. One lemma for each shared operation that says once, in the words of Safety.lean, all it can do; the provers cite
these in place of unfolding the operations. -/

namespace Sys2Proof.Machine

/-! ## Reports and line events -/

/-- A status report acts on the Link Controller alone, as R171 says. -/
theorem State.queueReport_eq (s : State) (r : Report) : s.queueReport r = { s with link := s.link.reported r } := by
  unfold State.queueReport Link.reported
  split <;> rfl

/-- A line event acts on the line's last event and on the Link Controller, as R17 and R172 say. -/
theorem State.raiseEvent_eq (s : State) (p : Port) (e : LineEvent) :
    s.raiseEvent p e =
      { s with lines := s.lines.set p { s.line p with lastEvent := some e }, link := s.link.evented p e } := by
  unfold State.raiseEvent Link.evented
  simp only [State.queueReport_eq]
  split <;> rfl

/-- The line an event is raised on keeps all but its last event. -/
@[simp] theorem State.raiseEvent_line_same (s : State) (p : Port) (e : LineEvent) :
    (s.raiseEvent p e).line p = { s.line p with lastEvent := some e } := by
  simp [State.raiseEvent_eq, State.line]

/-- Reporting changes the queue and the lost flag, and nothing else of the Link Controller. -/
@[simp] theorem Link.reported_fields (k : Link) (r : Report) :
    (k.reported r).limits = k.limits ∧ (k.reported r).enables = k.enables ∧ (k.reported r).host = k.host ∧
    (k.reported r).heldOrder = k.heldOrder ∧ (k.reported r).replyPath = k.replyPath ∧
    (k.reported r).assembler = k.assembler ∧ (k.reported r).sending = k.sending ∧
    (k.reported r).timeoutRunning = k.timeoutRunning ∧ (k.reported r).downRemaining = k.downRemaining ∧
    (k.reported r).secondsDown = k.secondsDown ∧ (k.reported r).downExpired = k.downExpired := by
  unfold Link.reported
  split <;> simp

/-- A report keeps the queue within its 64 entries. -/
theorem Link.reported_fits (k : Link) (r : Report) (h : k.reports.length ≤ 64) : (k.reported r).reports.length ≤ 64 := by
  unfold Link.reported
  split
  · simp; omega
  · exact h

/-! ## Sessions and accounts -/

/-- The session record of a number after its change, where the change keeps the number. -/
theorem State.findSession_mapSession (s : State) (n : Nat) (f : Session → Session) (x : Session)
    (h : s.findSession n = some x) (hf : (f x).number = x.number) : (s.mapSession n f).findSession n = some (f x) := by
  have hx : (x.number == n) = true := List.find?_some (p := fun y : Session => y.number == n) h
  exact find_changeFirst_same h (by simpa [hf] using hx)

/-- The account record of a number after its change, where the change keeps the number. -/
theorem State.findAccount_mapAccount (s : State) (a : Nat) (f : Account → Account) (x : Account)
    (h : s.findAccount a = some x) (hf : (f x).number = x.number) : (s.mapAccount a f).findAccount a = some (f x) := by
  have hx : (x.number == a) = true := List.find?_some (p := fun y : Account => y.number == a) h
  exact find_changeFirst_same h (by simpa [hf] using hx)

/-- The account record of another number is as before, where the change keeps the number. -/
theorem State.findAccount_mapAccount_ne (s : State) (a b : Nat) (f : Account → Account) (hf : ∀ x, (f x).number = x.number)
    (h : b ≠ a) : (s.mapAccount a f).findAccount b = s.findAccount b := by
  refine find_changeFirst_other _ (fun x hx => ?_)
  have hx : x.number = a := by simpa using hx
  simp [hf, hx, Ne.symm h]

/-- The session record of another number is as before, where the change keeps the number. -/
theorem State.findSession_mapSession_ne (s : State) (n m : Nat) (f : Session → Session) (hf : ∀ x, (f x).number = x.number)
    (h : m ≠ n) : (s.mapSession n f).findSession m = s.findSession m := by
  refine find_changeFirst_other _ (fun x hx => ?_)
  have hx : x.number = n := by simpa using hx
  simp [hf, hx, Ne.symm h]

/-- A change of a session record leaves the number of records. -/
@[simp] theorem State.length_mapSession (s : State) (n : Nat) (f : Session → Session) :
    (s.mapSession n f).sessions.length = s.sessions.length := by simp [State.mapSession]

/-- A change of an account record leaves the number of records. -/
@[simp] theorem State.length_mapAccount (s : State) (a : Nat) (f : Account → Account) :
    (s.mapAccount a f).accounts.length = s.accounts.length := by simp [State.mapAccount]

/-! ## Characters -/

/-- Writing back a line that was read changes nothing. -/
@[simp] theorem State.setLine_line (s : State) (p : Port) : s.setLine p (s.line p) = s := by
  simp [State.setLine, State.line]

/-- A parity error is a number of one bits that does not agree with the parity (R25). -/
theorem parityError_eq_onesOf : ∀ (c : Code) (bit : Bool),
    (parityError .even c bit = false ↔ onesOf c bit % 2 = 0) ∧ (parityError .odd c bit = false ↔ onesOf c bit % 2 = 1) := by
  decide +kernel

/-- A character that a line accepts is no error character, if it was framed (R25). -/
theorem Line.isError_of_accepts (l : Line) (c : Code) (bit : Bool) (h : l.accepts c bit) : l.isError c bit false = false := by
  simp only [Line.isError, Bool.false_or, Bool.and_eq_false_iff]
  rcases h with h | ⟨h, h1⟩ | ⟨h, h1⟩
  · exact .inl h
  · exact .inr (by rw [h]; exact (parityError_eq_onesOf c bit).1.2 h1)
  · exact .inr (by rw [h]; exact (parityError_eq_onesOf c bit).2.2 h1)

/-- A character that is refused with BEL has no echo beside it (R28). -/
theorem Partial.assemble_bell (q : Partial) (a : AssemblySettings) (mask : Bool) (c : Code)
    (h : (q.assemble a mask c).bell = true) : (q.assemble a mask c).echo = [] := by
  revert h
  unfold Partial.assemble Partial.atReturn Partial.erase Partial.store
  split_ifs <;> simp

/-- An echo acts on one line's output queue alone (R28, R44). -/
theorem State.appendEcho_eq (s : State) (p : Port) (cs : List Code) :
    s.appendEcho p cs = s.setLine p { s.line p with output := (s.line p).echoed cs } := by
  unfold State.appendEcho Line.echoed Config.outputPlaces
  by_cases h : (s.line p).output.length + cs.length ≤ 256
  · simp only [h, if_true]
  · simp only [h, if_false]
    exact (State.setLine_line s p).symm

/-- What is sent for an assembled character, whole (R28). -/
theorem State.sendEcho_eq (s : State) (p : Port) (on : Bool) (r : Assembled) (h : r.bell = true → r.echo = []) :
    s.sendEcho p on r = s.setLine p { s.line p with output := (s.line p).echoed (r.sent on) } := by
  have e : s.setLine p { s.line p with output := (s.line p).echoed [] } = s := by
    have e1 : (s.line p).echoed [] = (s.line p).output := by simp [Line.echoed]
    rw [e1]
    exact State.setLine_line s p
  unfold State.sendEcho Assembled.sent State.sendBel
  cases hb : r.bell <;> cases on <;> simp only [if_true, if_false, Bool.false_eq_true, State.appendEcho_eq, e]
  rw [h hb, e]

/-! ## Orders -/

/-- The state that an order finds when its frame is carried out at once with the host UP. -/
def State.heard (s : State) : State :=
  { s with link := { s.link with assembler := .hunting, timeoutRunning := s.link.limits.linkTimeout != 0 } }

/-- A frame complete on a ready link is carried out at once (R167, R168). -/
theorem State.takeOrder_ready (s : State) (kind : Byte) (body : List Byte) (order : List Byte → State → State)
    (h : s.ready) : s.takeOrder kind body order = order body s.heard := by
  obtain ⟨h0, h1, h2, h3⟩ := h
  have e : s.heard = s.goodFrame := by
    simp only [State.heard, State.goodFrame, h3, State.restartTimeout, State.limits, ← h0]
  simp only [State.takeOrder, State.takeFrame, State.meetFrame, h0, h1, h2, Option.isSome_none, Bool.false_eq_true, if_false, e]

/-- A frame complete behind a reply becomes the held order (R167). -/
theorem State.takeOrder_behind (s : State) (kind : Byte) (body : List Byte) (order : List Byte → State → State)
    (h0 : s.link.assembler = .hunting) (h1 : s.link.heldOrder = none) (h2 : s.link.replyPath ≠ none) :
    s.takeOrder kind body order =
      { s with link := { s.link with heldOrder := some ⟨kind, body, frameCheck kind body⟩ } } := by
  simp [State.takeOrder, State.takeFrame, State.meetFrame, h0, h1, Option.isSome_iff_ne_none.mpr h2]

/-- With an order held the inbound side takes no frame (R167). -/
theorem State.takeOrder_full (s : State) (kind : Byte) (body : List Byte) (order : List Byte → State → State)
    (h : s.link.heldOrder ≠ none) : s.takeOrder kind body order = s := by
  simp [State.takeOrder, State.takeFrame, Option.isSome_iff_ne_none.mpr h]

/-- Bytes taken one after another. -/
theorem State.takeBytes_cons (s : State) (b : Byte) (bs : List Byte) :
    s.takeBytes (b :: bs) = (s.takeByte b).takeBytes bs := rfl

/-- With an order held the inbound side takes no byte (R167). -/
@[simp] theorem State.takeBytes_full (s : State) (bs : List Byte) (h : s.link.heldOrder ≠ none) : s.takeBytes bs = s := by
  induction bs with
  | nil => rfl
  | cons b bs ih => simp [State.takeBytes_cons, State.takeByte, Option.isSome_iff_ne_none.mpr h, ih]

/-- A property that carrying out a frame keeps, and that neither the assembler nor a held order matters to, is kept by every
byte the inbound side takes (R167). -/
theorem State.takeBytes_keeps (P : State → Prop) (hc : ∀ s f, s.link.heldOrder = none → s.link.replyPath = none → P s → P (s.carryOut f))
    (ha : ∀ s a, P s → P { s with link := { s.link with assembler := a } })
    (hh : ∀ s f, s.link.replyPath ≠ none → P s → P { s with link := { s.link with heldOrder := some f } })
    (s : State) (bs : List Byte) (h : P s) : P (s.takeBytes bs) := by
  induction bs generalizing s with
  | nil => exact h
  | cons b bs ih =>
    refine ih _ ?_
    unfold State.takeByte
    split
    · exact h
    · next hn =>
      have hn : s.link.heldOrder = none := by simpa using hn
      dsimp only
      split
      · unfold State.meetFrame
        split
        · next hr => exact hh _ _ (Option.isSome_iff_ne_none.mp hr) (ha _ _ h)
        · next hr => exact hc _ _ hn (by simpa using hr) (ha _ _ h)
      · exact ha _ _ h

/-- The body bytes of a frame join the frame in assembly while its LENGTH asks for more (R167). -/
theorem State.takeBytes_body (s : State) (x k n : Byte) (got more : List Byte) (h0 : s.link.heldOrder = none)
    (ha : s.link.assembler = .inFrame (x :: k :: n :: got)) (hn : got.length + more.length ≤ n.toNat) :
    s.takeBytes more = { s with link := { s.link with assembler := .inFrame (x :: k :: n :: (got ++ more)) } } := by
  induction more generalizing s got with
  | nil => simp [State.takeBytes, ← ha]
  | cons b more ih =>
    simp only [List.length_cons] at hn
    have e : s.takeByte b = { s with link := { s.link with assembler := .inFrame (x :: k :: n :: (got ++ [b])) } } := by
      simp [State.takeByte, h0, ha, Assembler.take, show got.length < n.toNat by omega]
    rw [State.takeBytes_cons, e]
    refine (ih _ (got ++ [b]) ?_ rfl ?_).trans ?_
    · exact h0
    · simp; omega
    · simp

/-- Found hunting, the bytes of a frame of at most 240 body bytes are that frame, complete with its last byte (R166, R167):
`takeFrame` and the bytes agree. -/
theorem State.takeBytes_frame (s : State) (f : Frame) (h0 : s.link.heldOrder = none) (ha : s.link.assembler = .hunting)
    (hb : f.body.length ≤ 240) : s.takeBytes f.bytes = s.takeFrame f (·.carryOut f) := by
  have hl : (BitVec.ofNat 8 f.body.length).toNat = f.body.length := by
    rw [BitVec.toNat_ofNat]; exact Nat.mod_eq_of_lt (by omega)
  have h3 : s.takeBytes [Config.lead, f.kind, BitVec.ofNat 8 f.body.length] =
      { s with link := { s.link with assembler := .inFrame [Config.lead, f.kind, BitVec.ofNat 8 f.body.length] } } := by
    simp [State.takeBytes, State.takeByte, h0, ha, Assembler.take, hl, show ¬ 240 < f.body.length by omega]
  have e1 : f.bytes = [Config.lead, f.kind, BitVec.ofNat 8 f.body.length] ++ f.body ++ [f.check] := by simp [Frame.bytes]
  have e2 : { s with link := { s.link with assembler := .hunting, heldOrder := none } } = s := by rw [← ha, ← h0]
  have e3 (q : State) (xs ys : List Byte) : q.takeBytes (xs ++ ys) = (q.takeBytes xs).takeBytes ys := List.foldl_append ..
  have e4 : s.takeFrame f (·.carryOut f) = s.meetFrame f (·.carryOut f) := by simp [State.takeFrame, h0, ha]
  rw [e1, e3, e3, h3, e4]
  refine (congrArg (State.takeBytes · [f.check]) (State.takeBytes_body _ Config.lead f.kind _ [] f.body ?_ rfl ?_)).trans ?_
  · exact h0
  · simp [hl]
  · simp only [State.takeBytes, State.takeByte, List.foldl_cons, List.foldl_nil, h0, Assembler.take, hl, Option.isSome_none,
      Bool.false_eq_true, if_false, Nat.lt_irrefl, List.nil_append]
    exact congrArg (State.meetFrame · f (·.carryOut f)) e2

/-- Hearing a frame leaves all but the assembler and the link timeout. -/
@[simp] theorem State.heard_fields (s : State) :
    s.heard.lines = s.lines ∧ s.heard.policies = s.policies ∧ s.heard.accounts = s.accounts ∧
    s.heard.classes = s.classes ∧ s.heard.messages = s.messages ∧ s.heard.waitQueue = s.waitQueue ∧
    s.heard.inputWait = s.inputWait ∧ s.heard.sessions = s.sessions ∧ s.heard.nextNumber = s.nextNumber ∧
    s.heard.tariff = s.tariff ∧ s.heard.bills = s.bills ∧ s.heard.draws = s.draws ∧ s.heard.pending = s.pending ∧
    s.heard.link.reports = s.link.reports ∧ s.heard.link.lost = s.link.lost ∧ s.heard.link.limits = s.link.limits ∧
    s.heard.link.enables = s.link.enables ∧ s.heard.link.host = s.link.host :=
  ⟨rfl, rfl, rfl, rfl, rfl, rfl, rfl, rfl, rfl, rfl, rfl, rfl, rfl, rfl, rfl, rfl, rfl, rfl⟩

/-- A reply placed on a state that has heard its frame is the claims' `replied`. -/
@[simp] theorem State.placeReply_heard (s : State) (kind : Byte) (code : ReplyCode) (data : List Byte) :
    s.heard.placeReply kind code data = s.replied kind code data := rfl

/-- A refusal changes nothing but the reply path. -/
@[simp] theorem State.refuse_heard (s : State) (kind : Byte) (code : ReplyCode) :
    s.heard.refuse kind code = s.replied kind code [] := rfl

/-! ## Line states -/

/-- Going on hook, whole (R2, R14, R16, R39, R109). -/
theorem State.goOnHook_eq (s : State) (p : Port) (d : Destination) :
    s.goOnHook p d =
      { s with lines := s.lines.set p { (s.line p).releaseCall with state := .guard, window := some 2, destination := d },
               inputWait := without p s.inputWait, waitQueue := without p s.waitQueue } := rfl

/-- A drop without message on an off-hook line, whole (R14). -/
theorem State.dropWithoutMessage_offHook (s : State) (p : Port) (d : Destination) (h : (s.line p).state.offHook = true) :
    s.dropWithoutMessage p d = (s.goOnHook p d).raiseEvent p (.callEnded .dropped) := by
  simp [State.dropWithoutMessage, h]

/-- A drop without message on an on-hook line changes nothing (R14). -/
theorem State.dropWithoutMessage_onHook (s : State) (p : Port) (d : Destination) (h : (s.line p).state.offHook = false) :
    s.dropWithoutMessage p d = s := by
  simp [State.dropWithoutMessage, h]

/-- A message of the table joins an output queue whole, or is discarded whole (R44, R90). -/
theorem State.queueMessage_codes (s : State) (p : Port) (m : Slot) :
    ((s.queueMessage p m).line p).output.map (·.code) =
      (s.line p).output.map (·.code) ++
        (if (s.line p).output.length + (s.messages[m].length + 2) ≤ 256 then messageCodes s.messages[m] else []) := by
  unfold State.queueMessage
  simp only [messageChars, List.length_append, List.length_map, List.length_cons, List.length_nil, Config.outputPlaces]
  split
  · have h : (fun x : OutChar => x.code) ∘ (fun c : Code => ({ code := c } : OutChar)) = id := rfl
    simp [messageCodes, h]
  · simp

/-- A message of the table changes one line's output queue and nothing else. -/
theorem State.queueMessage_eq (s : State) (p : Port) (m : Slot) :
    s.queueMessage p m = s.setLine p { s.line p with
      output := if (s.line p).output.length + (s.messages[m].length + 2) ≤ 256 then
        (s.line p).output ++ messageChars s.messages[m] m else (s.line p).output } := by
  unfold State.queueMessage
  simp only [messageChars, List.length_append, List.length_map, List.length_cons, List.length_nil, Config.outputPlaces]
  split
  · rfl
  · exact (State.setLine_line s p).symm

/-- The host slot's arbiter does nothing where no line waits (R105). -/
@[simp] theorem State.evaluate_nil (s : State) (h : s.waitQueue = []) : s.evaluate = s := by
  simp [State.evaluate, h, State.evaluateQueue]

/-- With slots in use at or above the host slot limit an evaluation changes nothing (R105). -/
theorem State.evaluate_full (s : State) (h : s.limits.hostSlots ≤ s.slotsInUse) : s.evaluate = s := by
  unfold State.evaluate
  generalize s.waitQueue.length = k
  cases k with
  | zero => rfl
  | succ k => unfold State.evaluateQueue; split <;> simp [Nat.not_lt.mpr h]

/-- With a slot free an evaluation judges the head and goes on with what is left; the number of rounds is the length of the
rest (R105). -/
theorem State.evaluate_cons (s : State) (p : Port) (rest : List Port) (h : s.waitQueue = p :: rest)
    (free : s.slotsInUse < s.limits.hostSlots) :
    s.evaluate = State.evaluateQueue rest.length (State.judgeHead { s with waitQueue := rest } p) := by
  simp [State.evaluate, h, State.evaluateQueue, free]

/-! ## The load band (R139) -/

theorem LoadSteps.settled_risen {x : LoadSteps} {b u : Nat} (h : x.settled b u) : x.settled (x.risen b (u + 1)) (u + 1) := by
  unfold LoadSteps.settled at h ⊢; unfold LoadSteps.risen; split <;> omega

theorem LoadSteps.settled_fallen {x : LoadSteps} {b u : Nat} (h : x.settled b (u + 1)) : x.settled (x.fallen b u) u := by
  unfold LoadSteps.settled at h ⊢; unfold LoadSteps.fallen; split <;> omega

/-- A close leaves open what the falling counts come to in the end. -/
theorem LoadSteps.emptied_fallen {x : LoadSteps} {b u : Nat} (h : x.settled b (u + 1)) :
    x.emptied (x.fallen b u) = x.emptied b := by
  unfold LoadSteps.settled at h; unfold LoadSteps.fallen LoadSteps.emptied; split <;> (repeat' split) <;> omega

/-- With no slot in use a settled band is what the falling counts come to. -/
theorem LoadSteps.emptied_settled {x : LoadSteps} {b : Nat} (h : x.settled b 0) : x.emptied b = b := by
  unfold LoadSteps.settled at h; unfold LoadSteps.emptied; (repeat' split) <;> omega

/-- The threshold of a band, written out. -/
theorem LoadSteps.threshold_values (x : LoadSteps) : x.threshold 1 = x.t1 ∧ x.threshold 2 = x.t2 ∧ x.threshold 3 = x.t3 := by
  simp [LoadSteps.threshold]

@[simp] theorem State.setBand_keeps (s : State) (b : Nat) (q : Bool) :
    (s.setBand b q).tariff.band = b ∧ (s.setBand b q).tariff.steps = s.tariff.steps
      ∧ (s.setBand b q).sessions = s.sessions ∧ (s.setBand b q).slotsInUse = s.slotsInUse := by
  unfold State.setBand State.slotsInUse
  split <;> simp

/-- The band rises where the slots in use have reached the next threshold (R139). -/
abbrev State.rises (s : State) : Prop := s.tariff.band < 3 ∧ s.tariff.steps.threshold (s.tariff.band + 1) ≤ s.slotsInUse

/-- The band falls where the slots in use are below its threshold less the hysteresis (R139). -/
abbrev State.falls (s : State) : Prop :=
  0 < s.tariff.band ∧ s.slotsInUse + s.tariff.steps.h < s.tariff.steps.threshold s.tariff.band

theorem State.raiseBand_stays (k : Nat) (s : State) (q : Bool) (h : ¬ s.rises) : State.raiseBand k s q = s := by
  cases k with
  | zero => rfl
  | succ k => unfold State.raiseBand; exact if_neg h

theorem State.raiseBand_moves (k : Nat) (s : State) (q : Bool) (h : s.rises) :
    State.raiseBand (k + 1) s q = State.raiseBand k (s.setBand (s.tariff.band + 1) q) q := by
  conv => lhs; unfold State.raiseBand
  exact if_pos h

theorem State.lowerBand_stays (k : Nat) (s : State) (q : Bool) (h : ¬ s.falls) : State.lowerBand k s q = s := by
  cases k with
  | zero => rfl
  | succ k => unfold State.lowerBand; exact if_neg h

theorem State.lowerBand_moves (k : Nat) (s : State) (q : Bool) (h : s.falls) :
    State.lowerBand (k + 1) s q = State.lowerBand k (s.setBand (s.tariff.band - 1) q) q := by
  conv => lhs; unfold State.lowerBand
  exact if_pos h

/-- Neither way to go: the band is settled (R139). -/
theorem State.bandSettled_of (s : State) (h : s.tariff.band ≤ 3) (h12 : s.tariff.steps.t1 < s.tariff.steps.t2)
    (h23 : s.tariff.steps.t2 < s.tariff.steps.t3) (up : ¬ s.rises) (down : ¬ s.falls) : s.bandSettled := by
  have ⟨a, b, c⟩ := s.tariff.steps.threshold_values
  refine ⟨h12, h23, ?_⟩
  simp only [State.rises, State.falls, State.slotsInUse, not_and, Nat.not_le, Nat.not_lt] at up down
  rcases (by omega : s.tariff.band = 0 ∨ s.tariff.band = 1 ∨ s.tariff.band = 2 ∨ s.tariff.band = 3) with e | e | e | e <;>
    simp only [e, a, b, c, Nat.zero_add, Nat.reduceAdd] at up down
  · exact .inl ⟨e, up (by decide)⟩
  · exact .inr (.inl ⟨e, up (by decide), down (by decide)⟩)
  · exact .inr (.inr (.inl ⟨e, up (by decide), down (by decide)⟩))
  · exact .inr (.inr (.inr ⟨e, down (by decide)⟩))

/-- A settled band has no way to go (R139). -/
theorem State.bandSettled.stays {s : State} (h : s.bandSettled) : ¬ s.rises ∧ ¬ s.falls := by
  have ⟨a, b, c⟩ := s.tariff.steps.threshold_values
  unfold State.bandSettled LoadSteps.settled at h
  constructor <;> intro v <;> simp only [State.rises, State.falls, State.slotsInUse] at v <;>
    obtain ⟨_, _, ⟨e, _⟩ | ⟨e, _, _⟩ | ⟨e, _, _⟩ | ⟨e, _⟩⟩ := h <;>
    simp only [e, a, b, c, Nat.zero_add, Nat.reduceAdd] at v <;> omega

/-- An evaluation of a settled band changes nothing (R139). -/
theorem State.bandSettled.reband {s : State} (h : s.bandSettled) (q : Bool) : s.reband q = s := by
  unfold State.reband
  rw [State.raiseBand_stays _ _ _ h.stays.1, State.lowerBand_stays _ _ _ h.stays.2]

/-- One change of a band that then is settled (R139). -/
theorem State.setBand_settled (s : State) (b : Nat) (q : Bool) (h : s.tariff.steps.settled b s.sessions.length) :
    (s.setBand b q).bandSettled := by
  unfold State.bandSettled
  obtain ⟨e1, e2, e3, _⟩ := s.setBand_keeps b q
  rw [e1, e2, e3]; exact h

/-- An admission moves a settled band up by one or not at all (R139). -/
theorem State.reband_rises (s : State) (q : Bool) (u : Nat) (h : s.tariff.steps.settled s.tariff.band u)
    (n : s.sessions.length = u + 1) :
    s.reband q = if s.tariff.steps.risen s.tariff.band (u + 1) = s.tariff.band then s
      else s.setBand (s.tariff.band + 1) q := by
  have next := LoadSteps.settled_risen h
  split
  · rename_i e
    rw [e, ← n] at next
    exact State.bandSettled.reband next q
  · rename_i e
    have r : s.tariff.steps.risen s.tariff.band (u + 1) = s.tariff.band + 1 := by
      unfold LoadSteps.risen at e ⊢; split <;> simp_all
    rw [r, ← n] at next
    have settled := s.setBand_settled _ q next
    have up : s.rises := by
      have ⟨a, b, c⟩ := s.tariff.steps.threshold_values
      unfold LoadSteps.risen at r
      unfold State.rises State.slotsInUse
      rcases (by split at r <;> omega : (s.tariff.band = 0 ∧ s.tariff.steps.t1 ≤ u + 1)
          ∨ (s.tariff.band = 1 ∧ s.tariff.steps.t2 ≤ u + 1) ∨ (s.tariff.band = 2 ∧ s.tariff.steps.t3 ≤ u + 1))
        with ⟨e, _⟩ | ⟨e, _⟩ | ⟨e, _⟩ <;> simp only [e, a, b, c, n, Nat.zero_add, Nat.reduceAdd] <;> omega
    unfold State.reband
    rw [State.raiseBand_moves _ _ _ up, State.raiseBand_stays _ _ _ settled.stays.1,
      State.lowerBand_stays _ _ _ settled.stays.2]

/-- A close moves a settled band down by one or not at all (R139). -/
theorem State.reband_falls (s : State) (q : Bool) (u : Nat) (h : s.tariff.steps.settled s.tariff.band (u + 1))
    (n : s.sessions.length = u) :
    s.reband q = if s.tariff.steps.fallen s.tariff.band u = s.tariff.band then s
      else s.setBand (s.tariff.band - 1) q := by
  have next := LoadSteps.settled_fallen h
  split
  · rename_i e
    rw [e, ← n] at next
    exact State.bandSettled.reband next q
  · rename_i e
    have ⟨a, b, c⟩ := s.tariff.steps.threshold_values
    have r : s.tariff.steps.fallen s.tariff.band u = s.tariff.band - 1 := by
      unfold LoadSteps.fallen at e ⊢; split <;> simp_all
    rw [r, ← n] at next
    have settled := s.setBand_settled _ q next
    have up : ¬ s.rises := by
      unfold LoadSteps.settled at h
      unfold State.rises State.slotsInUse
      obtain ⟨_, _, ⟨e, _⟩ | ⟨e, _, _⟩ | ⟨e, _, _⟩ | ⟨e, _⟩⟩ := h <;>
        simp only [e, a, b, c, n, Nat.zero_add, Nat.reduceAdd] <;> omega
    have down : s.falls := by
      unfold LoadSteps.fallen at r e
      unfold State.falls State.slotsInUse
      rcases (by split at e <;> omega : (s.tariff.band = 1 ∧ u + s.tariff.steps.h < s.tariff.steps.t1)
          ∨ (s.tariff.band = 2 ∧ u + s.tariff.steps.h < s.tariff.steps.t2)
          ∨ (s.tariff.band = 3 ∧ u + s.tariff.steps.h < s.tariff.steps.t3))
        with ⟨e, _⟩ | ⟨e, _⟩ | ⟨e, _⟩ <;> simp only [e, a, b, c, n] <;> omega
    unfold State.reband
    rw [State.raiseBand_stays _ _ _ up, State.lowerBand_moves _ _ _ down, State.lowerBand_stays _ _ _ settled.stays.2]

/-- Rising as often as there are bands above leaves no way up, and a band of at most 3 (R139). -/
theorem State.raiseBand_done (k : Nat) (s : State) (q : Bool) (h : s.tariff.band ≤ 3) (hk : 3 ≤ s.tariff.band + k) :
    ¬ (State.raiseBand k s q).rises ∧ (State.raiseBand k s q).tariff.band ≤ 3 := by
  induction k generalizing s with
  | zero => exact ⟨fun r => by have := r.1; simp only [State.raiseBand] at this; omega, h⟩
  | succ k ih =>
    by_cases r : s.rises
    · rw [State.raiseBand_moves _ _ _ r]
      have := r.1
      exact ih _ (by simp; omega) (by simp; omega)
    · rw [State.raiseBand_stays _ _ _ r]; exact ⟨r, h⟩

/-- Falling as often as there are bands below leaves no way down, and no way up where there was none (R139). -/
theorem State.lowerBand_done (k : Nat) (s : State) (q : Bool) (h : s.tariff.band ≤ 3) (hk : s.tariff.band ≤ k) (up : ¬ s.rises) :
    ¬ (State.lowerBand k s q).rises ∧ ¬ (State.lowerBand k s q).falls ∧ (State.lowerBand k s q).tariff.band ≤ 3 := by
  induction k generalizing s with
  | zero => exact ⟨up, fun r => by have := r.1; simp only [State.lowerBand] at this; omega, h⟩
  | succ k ih =>
    by_cases r : s.falls
    · rw [State.lowerBand_moves _ _ _ r]
      have := r.1
      refine ih _ (by simp; omega) (by simp; omega) fun v => ?_
      have v2 := v.2
      obtain ⟨e1, e2, _, e4⟩ := s.setBand_keeps (s.tariff.band - 1) q
      rw [e1, e2, e4, Nat.sub_add_cancel this] at v2
      have := r.2
      omega
    · rw [State.lowerBand_stays _ _ _ r]; exact ⟨up, r, h⟩

/-- Every evaluation leaves the band settled (R139). -/
theorem State.reband_settled (s : State) (q : Bool) (h : s.tariff.band ≤ 3) (h12 : s.tariff.steps.t1 < s.tariff.steps.t2)
    (h23 : s.tariff.steps.t2 < s.tariff.steps.t3) : (s.reband q).bandSettled := by
  obtain ⟨up, le⟩ := s.raiseBand_done 3 q h (Nat.le_add_left ..)
  obtain ⟨up2, down, le2⟩ := State.lowerBand_done 3 (State.raiseBand 3 s q) q le le up
  refine (s.reband q).bandSettled_of le2 ?_ ?_ up2 down <;> simpa using by assumption

/-! ## Layouts (11.1, 11.4) -/

@[simp] theorem laid_nil : laid [] = [] := rfl

/-- Fields in their order are the bytes of the first and those of the rest. -/
theorem laid_cons (k v : Nat) (fields : List (Nat × Nat)) : laid ((k, v) :: fields) = beBytes k v ++ laid fields := by
  have h : (List.range k).reverse.map (fun i => BitVec.ofNat 8 (v / 256 ^ i)) = beBytes k v := by
    induction k with
    | zero => rfl
    | succ k ih => rw [List.range_succ, List.reverse_append, List.map_append, ih]; rfl
  rw [← h]; rfl

theorem laid_append (a b : List (Nat × Nat)) : laid (a ++ b) = laid a ++ laid b := by simp [laid]

theorem beBytes_one (v : Nat) : beBytes 1 v = [byteOf v] := by simp [beBytes, byteOf]

theorem beBytes_zero (k : Nat) : beBytes k 0 = List.replicate k 0#8 := by
  induction k with
  | zero => rfl
  | succ k ih => simp [beBytes, ih, List.replicate_succ]

end Sys2Proof.Machine
end

