-- ==== Sys2Proof/Laws/SecondMark.lean ====
section
/-! SUPPORT. What a second mark does, in the words of Safety.lean: its counts, the expiries it takes, and the entry that period
selection finds. -/

namespace Sys2Proof.Machine

/-! ## The counts -/

/-- The model's lowered line is the claims'. -/
theorem Line.countMark_eq (l : Line) (noise : Nat) : l.countMark noise = l.lowered noise := by
  cases hw : l.noiseWindow with
  | none => cases hh : l.holder <;> (simp [Line.countMark, Line.countNoise, Line.lowered, Dialogue.countMark, hw, hh]; try rfl)
  | some n =>
    by_cases h : n ≤ 1 <;> cases hh : l.holder <;>
      (simp [Line.countMark, Line.countNoise, Line.restartNoise, Line.lowered, Dialogue.countMark, hw, hh, h]; try rfl)

/-- The first part of a mark is the claims' lowering (R3, R129, R176). -/
theorem State.countMark_eq (s : State) : s.advanceClock.countMark.nextDraw = s.lowered := by
  have hk : s.link.countMark = match s.link.host with
      | .up => s.link
      | .down => { s.link with secondsDown := min 65535 (s.link.secondsDown + 1),
                               downRemaining := s.link.downRemaining.map (· - 1) } := by
    unfold Link.countMark restAt; rfl
  unfold State.lowered State.countMark State.advanceClock State.nextDraw
  cases s.tariff.clockValid <;>
    simp only [if_true, if_false, Bool.false_eq_true, State.limits, Line.countMark_eq, hk] <;> rfl

/-- A mark within a minute is the lowering, and then the things of the mark in some order (R3, R114). -/
theorem State.secondMark_within (s : State) (h : s.withinMinute) :
    ∃ ts, ts.Perm (s.lowered.dueTasks ++ s.shareTasks) ∧ s.secondMark = s.lowered.runTasks .none ts := by
  have hm : s.minuteDue = false := by
    cases hv : s.tariff.clockValid
    · simp [State.minuteDue, hv]
    · simp [State.minuteDue, h hv]
  have hd : s.lowered.dueTasks = s.advanceClock.countMark.dueTasks := by rw [← State.countMark_eq]; rfl
  have hs : s.advanceClock.countMark.shareTasks = s.shareTasks := by simp [State.shareTasks]
  refine ⟨s.advanceClock.countMark.drawOrder (s.lowered.dueTasks ++ s.shareTasks), State.drawOrder_perm _ _, ?_⟩
  simp only [State.secondMark, hm, Bool.false_eq_true, if_false, hd, hs, State.countMark_eq]

/-- A minute mark is the lowering, and then the things of the mark in some order with the Tariff Unit's share at some place
among them (R114, R129, R165). -/
theorem State.secondMark_minute (s : State) (hv : s.tariff.clockValid = true) (h : s.tariff.clock.second = 59) :
    ∃ ts k, ts.Perm (s.lowered.dueTasks ++ s.shareTasks)
      ∧ s.secondMark = s.lowered.runMinute s.tariff.clock.wraps k ts := by
  have hm : s.minuteDue = true := by simp [State.minuteDue, hv, h]
  have hd : s.lowered.dueTasks = s.advanceClock.countMark.dueTasks := by rw [← State.countMark_eq]; rfl
  have hs : s.advanceClock.countMark.shareTasks = s.shareTasks := by simp [State.shareTasks]
  refine ⟨s.advanceClock.countMark.drawOrder (s.lowered.dueTasks ++ s.shareTasks), Config.tariffPlace s.draws,
    State.drawOrder_perm _ _, ?_⟩
  simp only [State.secondMark, hm, if_true, hd, hs, State.countMark_eq]

/-- The Tariff Unit's share of a minute mark leaves its own block and the link as the wrap, the switch and the selection do; the
re-latch changes sessions alone (R129, R145). -/
theorem State.tariffShare_eq (s : State) (w : Bool) (ds ts : List MarkTask) :
    s.tariffShare w ds ts = { s.minuteMark w with sessions := (s.tariffShare w ds ts).sessions } := by
  have h (ns : List Nat) (q : State) :
      ns.foldl (fun q n => q.relatch n (latchLeft ds ts n)) q =
        { q with sessions := (ns.foldl (fun q n => q.relatch n (latchLeft ds ts n)) q).sessions } := by
    have := State.relatches_frame (latchLeft ds ts) ns q
    generalize ns.foldl (fun q n => q.relatch n (latchLeft ds ts n)) q = t at this ⊢
    cases t; cases q; simp_all
  exact h _ _

/-! ## Period selection -/

/-- Among entries that start earlier than a bound, what period selection keeps starts earlier too. -/
theorem laterEntry_below (now : Time) (bound : Nat) (xs : List (Option TariffEntry × Nat)) (best : Option (Nat × TariffEntry))
    (hb : ∀ c ∈ best, c.2.start < bound)
    (hx : ∀ x ∈ xs, ∀ f, x.1 = some f → f.days.getLsbD now.day = true → f.start ≤ now.minute → f.start < bound) :
    ∀ c ∈ xs.foldl (fun b x => laterEntry now.day now.minute b x.2 x.1) best, c.2.start < bound := by
  induction xs generalizing best with
  | nil => exact hb
  | cons x xs ih =>
    refine ih _ (fun c hc => ?_) (fun y hy => hx y (List.mem_cons_of_mem _ hy))
    have h1 := hx x (List.mem_cons_self ..)
    simp only [laterEntry] at hc
    split at hc
    · exact hb c hc
    · next f hf =>
      split at hc
      · next hd =>
        split at hc
        · obtain rfl := Option.mem_some.mp hc; exact h1 f hf hd.1 hd.2
        · split at hc
          · obtain rfl := Option.mem_some.mp hc; exact h1 f hf hd.1 hd.2
          · exact hb c (by simpa using hc)
      · exact hb c hc

/-- An entry that period selection holds stays, where all that follow start earlier. -/
theorem laterEntry_keeps (now : Time) (c : Nat × TariffEntry) (xs : List (Option TariffEntry × Nat))
    (hx : ∀ x ∈ xs, ∀ f, x.1 = some f → f.days.getLsbD now.day = true → f.start ≤ now.minute → f.start < c.2.start) :
    xs.foldl (fun b x => laterEntry now.day now.minute b x.2 x.1) (some c) = some c := by
  induction xs with
  | nil => rfl
  | cons x xs ih =>
    have h1 := hx x (List.mem_cons_self ..)
    have e : laterEntry now.day now.minute (some c) x.2 x.1 = some c := by
      unfold laterEntry
      split
      · rfl
      · next f hf =>
        split
        · next hd => exact if_neg (by have := h1 f hf hd.1 hd.2; omega)
        · rfl
    rw [List.foldl_cons, e]
    exact ih (fun y hy => hx y (List.mem_cons_of_mem _ hy))

/-- Period selection finds the entry in force (R137). -/
theorem TariffTable.entryAt_inForce (table : TariffTable) (now : Time) (i : Fin 16) (e : TariffEntry)
    (h : table.inForce now i e) : table.entryAt now.day now.minute = some (i.val, e) := by
  obtain ⟨he, hd, hs, hx⟩ := h
  have hget (k : Nat) (f : TariffEntry) (hf : table.toList[k]? = some (some f)) :
      ∃ hk : k < 16, table[(⟨k, hk⟩ : Fin 16)] = some f := by
    obtain ⟨hk, hf⟩ := List.getElem?_eq_some_iff.mp hf
    have hk' : k < 16 := by simpa using hk
    exact ⟨hk', by simpa using hf⟩
  have hl : table.toList = table.toList.take i ++ some e :: table.toList.drop (i + 1) := by
    have hi : i.val < table.toList.length := by simp
    rw [show some e = table.toList[i.val] by rw [← he]; simp, List.getElem_cons_drop, List.take_append_drop]
  have hz : table.toList.zipIdx = (table.toList.zipIdx).take i ++ (some e, i.val) :: (table.toList.zipIdx).drop (i + 1) := by
    have hi : i.val < table.toList.zipIdx.length := by simp
    rw [show (some e, i.val) = table.toList.zipIdx[i.val] by rw [← he]; simp, List.getElem_cons_drop, List.take_append_drop]
  have hother : ∀ k f, k ≠ i.val → table.toList[k]? = some (some f) → f.days.getLsbD now.day = true → f.start ≤ now.minute →
      f.start < e.start := by
    intro k f hk hf h1 h2
    obtain ⟨hk', hf'⟩ := hget k f hf
    exact hx ⟨k, hk'⟩ f (fun h => hk (by rw [← h])) hf' h1 h2
  unfold TariffTable.entryAt
  rw [hz, List.foldl_append, List.foldl_cons]
  have h1 := laterEntry_below now e.start ((table.toList.zipIdx).take i) none (by simp) (by
    intro x hxm f hf h1 h2
    obtain ⟨k, hk, rfl⟩ := List.getElem_of_mem hxm
    simp only [List.length_take, List.length_zipIdx] at hk
    simp only [List.getElem_take, List.getElem_zipIdx] at hf
    exact hother k f (by omega) (by rw [List.getElem?_eq_getElem (by omega)]; exact congrArg some hf) h1 h2)
  have h2 : laterEntry now.day now.minute
      (((table.toList.zipIdx).take i).foldl (fun b x => laterEntry now.day now.minute b x.2 x.1) none) i.val (some e)
        = some (i.val, e) := by
    generalize ((table.toList.zipIdx).take i).foldl (fun b x => laterEntry now.day now.minute b x.2 x.1) none = b at h1
    cases b with
    | none => simp [laterEntry, hd, hs]
    | some b => simp [laterEntry, hd, hs, h1 b rfl]
  rw [h2]
  refine laterEntry_keeps now (i.val, e) _ ?_
  intro x hxm f hf h1 h2
  obtain ⟨k, hk, rfl⟩ := List.getElem_of_mem hxm
  simp only [List.length_drop, List.length_zipIdx] at hk
  simp only [List.getElem_drop, List.getElem_zipIdx] at hf
  exact hother (i.val + 1 + k) f (by omega) (by rw [List.getElem?_eq_getElem (by omega)]; exact congrArg some hf) h1 h2

/-- The current period after a selection, from the tariff alone (R137). -/
theorem State.selectPeriod_period (s : State) :
    s.selectPeriod.tariff.period =
      if s.tariff.clockValid = true ∧ s.tariff.activePresent = true then
        match s.tariff.active.entryAt s.tariff.clock.day s.tariff.clock.minute with
        | none => s.tariff.period
        | some (i, e) => some ⟨i, e.rates⟩
      else s.tariff.period := by
  unfold State.selectPeriod
  split
  · cases s.tariff.active.entryAt s.tariff.clock.day s.tariff.clock.minute <;> simp
  · rfl

/-- A switch makes the standby table active (R136). -/
theorem State.switchTariff_tariff (s : State) :
    s.switchTariff.tariff.active = s.tariff.standby ∧ s.switchTariff.tariff.activePresent = true
      ∧ s.switchTariff.tariff.commit = .none := by
  unfold State.switchTariff
  simp only []
  split <;> simp

/-! ## The Tariff Unit's share of a minute mark -/

/-- What a commit that is due does at a minute mark, and the report that it makes (R136, R137). -/
theorem State.minuteMark_due (q : State) (w : Bool)
    (h : (if w then q.tariff.commit.clearWrap else q.tariff.commit).due q.tariff.clock.minuteOfWeek = true) :
    (q.minuteMark w).tariff.active = q.tariff.standby ∧ (q.minuteMark w).tariff.activePresent = true
      ∧ (q.minuteMark w).tariff.commit = .none
      ∧ ∀ i e, q.tariff.clockValid = true → q.tariff.standby.inForce q.tariff.clock i e →
        (q.minuteMark w).tariff.period = some ⟨i, e.rates⟩
          ∧ (q.minuteMark w).link = q.link.reported (.tariffSwitched q.tariff.clock ⟨i, e.rates⟩) := by
  have key : ∃ q' : State, q.minuteMark w = q'.switchTariff.selectPeriod ∧ q'.tariff.standby = q.tariff.standby
      ∧ q'.tariff.clock = q.tariff.clock ∧ q'.tariff.clockValid = q.tariff.clockValid
      ∧ q'.link = q.link := by
    unfold State.minuteMark
    cases w
    · refine ⟨q, ?_, rfl, rfl, rfl, rfl⟩
      simp at h; simp [h]
    · refine ⟨{ q with tariff := { q.tariff with commit := q.tariff.commit.clearWrap } }, ?_, rfl, rfl, rfl, rfl⟩
      simp at h; simp [h]
  obtain ⟨q', hq, h1, h2, h3, h5⟩ := key
  rw [hq]
  have hs := State.switchTariff_tariff q'
  refine ⟨by simp [hs, h1], by simp [hs], by simp [hs], fun i e hv hi => ?_⟩
  have he := TariffTable.entryAt_inForce _ _ _ _ hi
  refine ⟨by rw [State.selectPeriod_period]; simp [hs, h1, h2, h3, hv, he], ?_⟩
  let q1 : State :=
    { q' with tariff := { q'.tariff with active := q'.tariff.standby, activePresent := true, commit := .none } }
  have hp1 : q1.selectPeriod.tariff.period = some ⟨i, e.rates⟩ := by
    rw [State.selectPeriod_period]; simp [q1, h1, h2, h3, hv, he]
  have e2 : q'.switchTariff = match q1.selectPeriod.tariff.period with
      | some w => q1.selectPeriod.queueReport (.tariffSwitched q1.selectPeriod.tariff.clock w)
      | none => q1.selectPeriod := rfl
  rw [hp1] at e2
  simp [e2, State.queueReport_eq, q1, h2, h5]

/-- What a minute mark at which no commit is due leaves and selects (R135, R137). -/
theorem State.minuteMark_notDue (q : State) (w : Bool)
    (h : (if w then q.tariff.commit.clearWrap else q.tariff.commit).due q.tariff.clock.minuteOfWeek = false) :
    (q.minuteMark w).tariff.active = q.tariff.active ∧ (q.minuteMark w).tariff.activePresent = q.tariff.activePresent
      ∧ (q.minuteMark w).tariff.commit = (if w then q.tariff.commit.clearWrap else q.tariff.commit)
      ∧ (q.minuteMark w).link = q.link
      ∧ (q.tariff.activePresent = false → (q.minuteMark w).tariff.period = q.tariff.period)
      ∧ ∀ i e, q.tariff.clockValid = true → q.tariff.activePresent = true → q.tariff.active.inForce q.tariff.clock i e →
        (q.minuteMark w).tariff.period = some ⟨i, e.rates⟩ := by
  have key : ∃ q' : State, q.minuteMark w = q'.selectPeriod ∧ q'.tariff.period = q.tariff.period
      ∧ q'.tariff.active = q.tariff.active ∧ q'.tariff.activePresent = q.tariff.activePresent
      ∧ q'.tariff.clock = q.tariff.clock ∧ q'.tariff.clockValid = q.tariff.clockValid ∧ q'.link = q.link
      ∧ q'.tariff.commit = (if w then q.tariff.commit.clearWrap else q.tariff.commit) := by
    unfold State.minuteMark
    cases w
    · refine ⟨q, ?_, rfl, rfl, rfl, rfl, rfl, rfl, by simp⟩
      simp at h; simp [h]
    · refine ⟨{ q with tariff := { q.tariff with commit := q.tariff.commit.clearWrap } }, ?_, rfl, rfl, rfl, rfl, rfl, rfl,
        by simp⟩
      simp at h; simp [h]
  obtain ⟨q', hq, h0, h1, h1', h2, h3, h5, h7⟩ := key
  rw [hq]
  refine ⟨by simp [h1], by simp [h1'], by simp [h7], by simp [h5], fun hn => ?_, fun i e hv hp hi => ?_⟩
  · rw [State.selectPeriod_period]; simp [h1', hn, h0]
  · have he := TariffTable.entryAt_inForce _ _ _ _ hi
    rw [State.selectPeriod_period]; simp [h1, h1', h2, h3, hv, hp, he]

/-! ## The expiries of a mark -/

/-- The command that is the expiry a mark takes; a session's share is none. -/
def MarkTask.command (s : State) : MarkTask → Option Instr
  | .window p => some ((s.line p).windowExpiry p) | .signOn p => some (.signOnLimitExpiry p)
  | .wait p => some (.waitLimitExpiry p) | .lock a => some (.lockTimerExpiry a) | .hostDown => some .hostDownLimitExpiry
  | .share _ _ => none

/-- What has run out at a mark, as commands. -/
theorem State.runOut_eq (s : State) : s.dueTasks.filterMap (·.command s) = s.runOut := by
  have e {α : Type} (f : α → MarkTask) (g : α → Instr) (h : ∀ x, (f x).command s = some (g x)) (xs : List α) :
      (xs.map f).filterMap (·.command s) = xs.map g := by
    rw [List.filterMap_map, ← List.filterMap_eq_map]
    exact List.filterMap_congr (fun x _ => h x)
  unfold State.dueTasks State.runOut
  simp only [List.filterMap_append]
  congr 1
  · congr 1
    · congr 1
      · congr 1
        · rw [e .window (fun p => (s.line p).windowExpiry p) (fun _ => rfl)]
          simp only [Bool.beq_eq_decide_eq]
        · rw [e .signOn Instr.signOnLimitExpiry (fun _ => rfl)]
          congr 1
          refine List.filter_congr (fun p _ => ?_)
          unfold Line.signOnDue Line.dialogue
          cases (s.line p).holder <;> simp [Bool.beq_eq_decide_eq]
      · rw [e .wait Instr.waitLimitExpiry (fun _ => rfl)]
        congr 1
        refine List.filter_congr (fun p _ => ?_)
        unfold Line.waitDue Line.dialogue
        cases (s.line p).holder <;> simp [Bool.beq_eq_decide_eq]
    · exact e (fun a : Account => .lock a.number) (fun a => .lockTimerExpiry a.number) (fun _ => rfl) _
  · split <;> rfl

/-- Where nothing has run out as a command, nothing has run out. -/
theorem State.dueTasks_nil (s : State) (h : s.runOut = []) : s.dueTasks = [] := by
  have hc : ∀ t ∈ s.dueTasks, (t.command s).isSome := by
    intro t ht
    simp only [State.dueTasks, List.mem_append, List.mem_map] at ht
    rcases ht with (((⟨_, _, rfl⟩ | ⟨_, _, rfl⟩) | ⟨_, _, rfl⟩) | ⟨_, _, rfl⟩) | ht
    · rfl
    · rfl
    · rfl
    · rfl
    · split at ht <;> simp_all [MarkTask.command]
  rw [← State.runOut_eq, List.filterMap_eq_nil_iff] at h
  cases hd : s.dueTasks with
  | nil => rfl
  | cons t ts => have := hc t (by simp [hd]); rw [h t (by simp [hd])] at this; simp at this

end Sys2Proof.Machine
end

