-- ==== Sys2Proof/Tests/Slice0.lean ====
section
/-! SUPPORT. The model's own tests: ill-formed commands refused, the spec's worked examples, and for each obligation with
hypotheses a concrete state and operands that meet them together. -/

-- One theorem at a time: the kernel's evaluations side by side would ask for too many threads.
set_option Elab.async false

namespace Sys2Proof.Tests

open Sys2Proof.Machine

/-! ## Small states -/

/-- The state after a command. -/
def after (c : Instr) (s : State) : State :=
  match exec c s with
  | .next t => t
  | .fault _ => s
  | .refused _ => s

/-- Power-up, but for line 3. -/
def on (l : Line) : State := State.reset.setLine 3 l

/-- A line in a call at 300 bit/s, even parity. -/
def call : Line := { state := .connected, speed := some .b300, parity := some .even, noiseWindow := some 7 }

/-- A dialogue in a phase. -/
def talk (ph : Phase) : Dialogue :=
  ⟨ph, 0, .running 50, if ph = .waiting then some 55120 else none, if ph = .waiting then some 20 else none⟩

/-- Line 3 in a call with a dialogue in a phase. -/
def inPhase (ph : Phase) : State := on { call with holder := .dialogue (talk ph) }

/-- The password `PA/X` of R70. -/
def password : List Code := [80#7, 65#7, 47#7, 88#7]

/-- The account of the worked example of chapter 11, with the password of R70. -/
def account : Account := { number := 55120, classNo := 1, check := 29240, balance := 500, limit := 2 }

/-- An OPEN session of that account on line 3, at the rate and multiplier of chapter 8's worked cases. -/
def session : Session :=
  { number := 4, account := 55120, snapshot := ⟨1, {}⟩, boundLine := some 3, firstLine := 3, lastLine := 3, start := {},
    meter := { rate := 720, multiplier := 20 } }

/-- Line 3 in a call with a session, its account, and the clock set. -/
def having (x : Session) (l : Line := call) : State :=
  { State.reset with lines := State.reset.lines.set 3 { l with holder := .session 4 }, sessions := [x],
                     accounts := [{ account with active := 1 }], nextNumber := 5,
                     tariff := { clockValid := true, clock := ⟨3, 700, 20⟩ } }

/-- The clock at a time. -/
def clockAt (d m x : Nat) : State := { State.reset with tariff := { clockValid := true, clock := ⟨d, m, x⟩ } }

/-- A table of one entry: every day from minute 0, with given rates. -/
def everyDay (r : Rate) : TariffTable :=
  (Vector.replicate 16 none).set 0 (some ⟨127#7, 0, Vector.replicate 4 r⟩)

/-- Line 3 in ENTRY with a well-formed record of `account` typed but for its CR. -/
def typed (a : Account := account) (r : Rate := .open 720) : State :=
  { State.reset with
    lines := State.reset.lines.set 3 { call with
      holder := .dialogue (talk .entry),
      partialRecord := ⟨[53#7, 53#7, 49#7, 50#7, 48#7] ++ password, [5], false, false⟩ },
    accounts := [a],
    tariff := { clockValid := true, activePresent := true, active := everyDay r, period := some ⟨0, Vector.replicate 4 r⟩ } }

/-- Characters typed on line 3, each with its even parity bit. -/
def type (s : State) (cs : List Nat) : State :=
  cs.foldl (fun q n => after (.characterReceived 3 (BitVec.ofNat 7 n) (onesOf (BitVec.ofNat 7 n) false % 2 == 1)) q) s

/-- What stands on line 3's output queue. -/
def shown (s : State) : List Nat := (s.line 3).output.map (·.code.toNat)

/-- A holder that is no dialogue. -/
theorem not_dialogue {h : Holder} (n : (match h with | .dialogue _ => false | _ => true) = true) (d : Dialogue) :
    h ≠ .dialogue d := by
  rintro rfl; simp at n

/-- A holder that is no session. -/
theorem not_session {h : Holder} (n : (match h with | .session _ => false | _ => true) = true) (k : Nat) :
    h ≠ .session k := by
  rintro rfl; simp at n

/-! ## Ill-formed commands -/

theorem test_illFormed_numbers :
    (Instr.lockTimerExpiry 0).wellFormed = false ∧ (Instr.lockTimerExpiry 1000000).wellFormed = false
      ∧ (Instr.holdExpiry 0).wellFormed = false ∧ (Instr.idleLimitExpiry 65536).wellFormed = false
      ∧ (Instr.fundsGraceExpiry 0).wellFormed = false ∧ (Instr.closingCountdownExpiry 65536).wellFormed = false := by
  decide +kernel

theorem test_illFormed_search :
    (Instr.speedFound 3 10228 true).wellFormed = false ∧ (Instr.searchAttemptFailed 3 (.noWindow 3333)).wellFormed = false
      ∧ (Instr.searchAttemptFailed 3 (.notReturn 3333 13#7)).wellFormed = false
      ∧ (Instr.searchAttemptFailed 3 (.stopSpace 5000)).wellFormed = false := by decide +kernel

theorem test_illFormed_frames :
    (Instr.frameLengthDiscard 1#8 240#8).wellFormed = false ∧ (Instr.frameBadCheck 1#8 [0#8, 0#8] 253#8).wellFormed = false
      ∧ (Instr.frameBadCheck 1#8 (List.replicate 241 0#8) 0#8).wellFormed = false
      ∧ (Instr.unknownKind 1#8 []).wellFormed = false := by decide +kernel

theorem test_illFormed_bodies :
    (Instr.lineServiceIn [3#8, 1#8]).wellFormed = false ∧ (Instr.lineServiceOut [3#8, 2#8]).wellFormed = false
      ∧ (Instr.lineServiceRestore [3#8, 0#8]).wellFormed = false
      ∧ (Instr.setLineCall [3#8, 1#8, 1#8, 0#8, 80#8, 0#8, 0#8, 47#8]).wellFormed = false
      ∧ (Instr.setLineInput [3#8, 0#8, 1#8, 1#8, 2#8]).wellFormed = false := by decide +kernel

/-- A body of 241 bytes is none, whatever the order (R166). -/
theorem test_illFormed_longBody :
    ∀ mk ∈ [Instr.mark, .restart, .setClock, .setLimits, .setReports, .setMessage, .setFaultPolicy, .setClass,
      .setLoadSteps, .loadAccount, .creditAccount, .dropAccount, .unlockAccount, .queryAccount, .tariffClear, .tariffEntry,
      .commitTariff, .queryTariff, .lineServiceIn, .lineServiceOut, .lineServiceRestore, .setLineCall, .setLineInput,
      .dropLine, .queryLine, .sendText, .endSession, .querySession, .takeBill, .unknownKind 0xFF#8],
      (mk (List.replicate 241 0#8)).wellFormed = false := by decide +kernel

/-- No row of the table gives a word. -/
theorem test_no_word : decodeTableWord 8 1 = none := rfl

/-! ## The spec's worked examples -/

/-- R70's two check values. -/
theorem test_checkValues : checkValue [65#7, 66#7] = 3042 ∧ checkValue password = 29240 := by decide +kernel

/-- The accept windows at their ends (R10). -/
theorem test_speedWindows :
    [7954, 7955, 10227, 10228].map matchSpeed = [none, some .b110, some .b110, none]
      ∧ [2916, 2917, 3749, 3750].map matchSpeed = [none, some .b300, some .b300, none]
      ∧ [728, 729, 937, 938].map matchSpeed = [none, some .b1200, some .b1200, none] := by decide +kernel

/-- Chapter 11's worked example: the credit of 250 to account 55120, and the reply frame as it goes out. -/
theorem test_creditExample :
    frameBytes 0x11#8 [0x00#8, 0xD7#8, 0x50#8, 0#8, 0#8, 0#8, 0xFA#8]
        = [0xC3#8, 0x11#8, 0x07#8, 0x00#8, 0xD7#8, 0x50#8, 0#8, 0#8, 0#8, 0xFA#8, 0xC7#8]
      ∧ (after .replySendStart (after (.creditAccount [0x00#8, 0xD7#8, 0x50#8, 0#8, 0#8, 0#8, 0xFA#8])
          { State.reset with accounts := [{ account with balance := 0 }] })).link.sending
        = [0xC3#8, 0x80#8, 0x05#8, 0x11#8, 0#8, 0#8, 0#8, 0xFA#8, 0x70#8] := by decide +kernel

/-- Chapter 2's sign-on example up to its CR: `4127/PA//Q`, DEL, `X`. -/
theorem test_signOnTyping :
    ((type (inPhase .entry) [52, 49, 50, 55, 47, 80, 65, 47, 47, 81, 127, 88]).line 3).partialRecord
        = ⟨codes [52, 49, 50, 55, 80, 65, 47, 88], [4], false, false⟩
      ∧ shown (type (inPhase .entry) [52, 49, 50, 55, 47, 80, 65, 47, 47, 81, 127, 88])
        = [52, 49, 50, 55, 47, 88, 88, 88, 88, 88, 8, 32, 8, 88] := by decide +kernel

/-- Chapter 2's COUNT example: `12,345` CR with N = 4 and separator `,`. -/
theorem test_countTyping :
    (type (having session { call with settings := ⟨.count, 4, false, true, 44#7⟩ }) [49, 50, 44, 51, 52, 53, 13]).link.reports
        = [.input 4 3 ⟨.long, false, [2], codes [49, 50, 51, 52]⟩]
      ∧ (type (having session { call with settings := ⟨.count, 4, true, true, 44#7⟩ }) [49, 50, 44, 51, 52, 53, 13]).link.reports
        = [.input 4 3 ⟨.exact, false, [2], codes [49, 50, 51, 52]⟩, .input 4 3 ⟨.short, false, [], codes [53]⟩] := by
  decide +kernel

/-- Chapter 2's output example: 60 characters behind 150 are refused FULL, and DRAINED comes at 64. -/
theorem test_drainExample :
    (after (.sendText (0#8 :: 4#8 :: 60#8 :: List.replicate 60 65#8))
        (having session { call with output := List.replicate 150 ⟨65#7, none⟩ })).link.replyPath
        = some ⟨0x28#8, .full, []⟩
      ∧ (after (.characterSent 3) (having session
          { call with output := List.replicate 65 ⟨65#7, none⟩, drainWanted := true })).link.reports = [.drained 4 3] := by
  decide +kernel

/-- R43: at 300 bit/s one NUL of fill follows a CR, before the next queued character; then the output rests at mark. -/
theorem test_fillNul :
    (let s := having session { call with output := [⟨13#7, none⟩, ⟨65#7, none⟩] }
     let t := after (.characterSent 3) s
     let u := after (.characterSent 3) t
     shown t = [65] ∧ (t.line 3).fill = 1 ∧ shown u = [65] ∧ (u.line 3).fill = 0
       ∧ (u.line 3).transmit = List.replicate 9 false ++ [true]
       ∧ (after (.characterSent 3) (after (.characterSent 3) u)).line 3 = { u.line 3 with output := [], transmit := [] }) := by
  decide +kernel

/-- R167: a KIND of C3h in a discarded frame is the LEAD of a frame whose KIND is its LENGTH byte, and takes the LEAD of the
MARK that follows as its LENGTH. -/
theorem test_discardedLead :
    (after (.mark [0#8, 7#8]) (after (.frameLengthDiscard 0xC3#8 0xF5#8) State.reset)).link
        = { State.reset.link with assembler := .inFrame ([0xC3#8, 0xF5#8, 0xC3#8, 0x01#8, 0x02#8, 0#8, 7#8, 0xF6#8]) }
      ∧ (after (.mark [0#8, 7#8]) (after (.frameLengthDiscard 0xC4#8 0xF5#8) State.reset)).link.replyPath.isSome = true := by
  decide +kernel

/-- Chapter 8's worked case: the marks 15:59:54, :58 and :59 of a session with balance 2 (one unit each 4 s, grace 30). -/
theorem test_chargeExample :
    (after .secondMark (having { session with meter := { rate := 720, multiplier := 20, acc := 43200 } })).sessions.map
        (fun x => (x.meter.acc, x.meter.charged, x.meter.debited)) = [(0, 1, 1)]
      ∧ (let s := having { session with snapshot := ⟨1, { grace := 30 }⟩, fundsWarned := true,
                                        meter := ⟨720, 20, 43200, 1, 1, 0, 0, false, false, false⟩ }
         let t := after .secondMark { s with accounts := [{ account with balance := 1, active := 1 }] }
         t.sessions.map (·.grace) = [some 30] ∧ t.accounts.map (·.balance) = [0]
           ∧ (after .secondMark t).sessions.map (fun x => (x.grace, x.meter.acc)) = [(some 29, 14400)]) := by decide +kernel

/-- R154, R165: at the minute mark that reopens a class, a session whose countdown ends there and one whose hold ends there.
Either closes first, and the countdown's session goes on where the reopened signal comes before its charge. -/
theorem test_closesOfOneMark :
    (let x := { session with countdown := some 1 }
     let y := { session with number := 7, account := 1, state := .held, boundLine := none, hold := some 1 }
     let s : State := { having x with
       sessions := [x, y],
       tariff := { clockValid := true, clock := ⟨3, 700, 0⟩, activePresent := true, active := everyDay (.open 720),
                   period := some ⟨0, Vector.replicate 4 .closed⟩ } }
     let c : Nat → List MarkTask → List Cause := fun k ts => (s.runMinute false k ts).bills.map (·.cause)
     c 2 [.share 7 false, .share 4 true] = [.holdExpired, .closedHours]
       ∧ c 1 [.share 4 true, .share 7 false] = [.closedHours, .holdExpired]
       ∧ c 1 [.share 7 false, .share 4 true] = [.holdExpired] ∧ c 0 [.share 4 true, .share 7 false] = [.holdExpired]) := by
  decide +kernel

/-- R145: at one minute mark session 7 closes, which brings band 1 to 0. The share of session 4 reads the band the close left
where it is taken after it, and the band as it stood where it is taken before, wherever the Tariff Unit's share comes; the rate
is that of the minute that begins. -/
theorem test_multiplierOfTheShare :
    (let x := { session with state := .stalled, snapshot := ⟨1, { surcharge := true }⟩ }
     let y := { session with number := 7, account := 1, state := .held, boundLine := none, hold := some 1 }
     let s : State := { having x with
       sessions := [x, y],
       tariff := { clockValid := true, clock := ⟨3, 700, 0⟩, activePresent := true, active := everyDay (.open 300),
                   band := 1, steps := { t1 := 2, h := 0 } } }
     let m : Nat → List MarkTask → List (Nat × Nat) := fun k ts =>
       (s.runMinute false k ts).sessions.map (fun z => (z.meter.rate, z.meter.multiplier))
     ∀ k ∈ [0, 1, 2], m k [.share 4 false, .share 7 false] = [(300, 20)] ∧ m k [.share 7 false, .share 4 false] = [(300, 16)]) := by
  decide +kernel

/-- Chapter 5's reattach: of two held sessions the one with the least hold is taken. -/
theorem test_reattachExample :
    (let x := { session with state := .held, boundLine := none }
     let t := type { typed { account with active := 2 } with
       sessions := [{ x with number := 2201, hold := some 35 }, { x with number := 2230, hold := some 90 }] } [13]
     t.sessions.map (fun y => (y.number, y.state, y.hold, y.reattaches))
         = [(2201, .open, none, 1), (2230, .held, some 90, 0)]
       ∧ t.link.reports = [.sessionResumed 2201 55120 3]) := by decide +kernel

/-- 11.5: the bytes of three reports behind LEAD, with the lost flag: LINE EVENT, INPUT with a mark and a text, SESSION CLOSED
without a line. -/
theorem test_reportBytes :
    (let sent : Report → List Byte := fun r =>
       (after .reportSendStart { State.reset with link := { reports := [r], lost := true } }).link.sending.dropLast
     sent (.lineEvent 5 (.speedFound .b300 .odd)) = [0xC3#8, 0x81#8, 5#8, 1#8, 5#8, 2#8, 3#8, 2#8]
       ∧ sent (.input 258 5 ⟨.full, false, [2], [65#7, 66#7, 67#7]⟩)
         = [0xC3#8, 0x82#8, 12#8, 1#8, 1#8, 2#8, 5#8, 1#8, 0#8, 1#8, 2#8, 3#8, 65#8, 66#8, 67#8]
       ∧ sent (.sessionClosed 258 55120 none .holdExpired)
         = [0xC3#8, 0x86#8, 8#8, 1#8, 1#8, 2#8, 0#8, 0xD7#8, 0x50#8, 0xFF#8, 2#8]) := by decide +kernel

/-- Chapter 7's commit example: AT day 3, 10:30, then the clock set to 10:35:10 (the commit becomes NEXT MINUTE). -/
theorem test_commitExample :
    (let s := clockAt 3 620 40
     let t := after (.commitTariff [1#8, 3#8, 0x02#8, 0x76#8])
       { s with tariff := { s.tariff with activePresent := true, active := everyDay (.open 300), standby := everyDay (.open 720) } }
     t.tariff.commit = .at 4950 false
       ∧ (after (.setClock [3#8, 0x02#8, 0x7B#8, 10#8]) { t with link := {} }).tariff.commit = .nextMinute) := by decide +kernel

/-- Chapter 7's band example: with 17 sessions and band 1, thresholds 8, 16 and 24 set band 2 with one report. -/
theorem test_bandExample :
    (let t := after (.setLoadSteps [8#8, 16#8, 24#8, 2#8, 16#8, 20#8, 24#8, 32#8])
       { State.reset with sessions := List.replicate 17 session, tariff := { band := 1 } }
     t.tariff.band = 2 ∧ t.link.reports = [.loadBand 1 2 17 24]) := by decide +kernel

/-- A session that only fills the table: HELD, of another account. -/
def filler (i : Nat) : Session :=
  { session with number := 100 + i, account := 1, state := .held, boundLine := none, hold := some 60 }

/-- The slots in use and the load band set, with fillers and the sessions of the state. -/
def crowded (s : State) (u band : Nat) : State :=
  { s with sessions := s.sessions ++ (List.range (u - s.sessions.length)).map filler, tariff := { s.tariff with band := band } }

/-- Rows of chapter 7's band example at the default load steps: the band and LOAD BAND report of an admission and of a close. -/
theorem test_bandRows :
    (∀ c ∈ [(11, 0, 1, [Report.loadBand 0 1 12 20]), (18, 1, 1, []), (19, 1, 2, [.loadBand 1 2 20 24]), (18, 2, 2, [])],
      let t := after (.characterReceived 3 13#7 true) (crowded typed c.1 c.2.1)
      t.tariff.band = c.2.2.1 ∧ t.link.reports = c.2.2.2 ++ [.sessionOpened 1 3 55120 1])
    ∧ (∀ c ∈ [(20, 2, 2, []), (19, 2, 2, []), (18, 2, 1, [Report.loadBand 2 1 17 20])],
      let t := after (.endSession [0#8, 4#8]) (crowded (having session) c.1 c.2.1)
      t.tariff.band = c.2.2.1 ∧ t.link.reports = [.billsWaiting 1] ++ c.2.2.2 ++ [.sessionClosed 4 55120 (some 3) .hostEnded]) := by
  decide +kernel

/-- R139's case of a band that falling counts do not leave, t1 = 2 and h = 3; with h = 0 the close leaves it. -/
theorem test_bandHeldUp :
    ∀ h ∈ [3, 0], let s := crowded (having session) 2 1
      (after (.endSession [0#8, 4#8])
        { s with tariff := { s.tariff with steps := ⟨2, 20, 28, h, 16, 20, 24, 32⟩ } }).tariff.band = if h = 3 then 1 else 0 := by
  decide +kernel

/-- Empty text is answered DONE on a queue of any length (R45). -/
theorem test_emptyText :
    (let t := after (.sendText [0#8, 4#8, 0#8]) (having session { call with output := List.replicate 256 ⟨65#7, none⟩ })
     t.link.replyPath = some ⟨0x28#8, .done, []⟩ ∧ (t.line 3).drainWanted = false) := by decide +kernel

/-! ## States and operands that meet the hypotheses of each obligation

`met_<Name>` is for `Obligations.<Name>`; a clause with hypotheses of its own has its state in the same theorem, at the ends
of its range where it has one. -/

theorem met_StepRunsTheFrontCommand :
    ({ State.reset with pending := [.secondMark, .powerUp] } : State).pending = .secondMark :: [.powerUp]
      ∧ State.reset.pending = [] := by decide +kernel

/-- A clock one second short of a minute, with a pending commit. -/
def committing (c : Commit) : State :=
  { State.reset with tariff := { clockValid := true, clock := ⟨3, 619, 59⟩, standby := everyDay (.open 300), commit := c } }

theorem met_SecondMarkMovesClockAndTariff :
    State.reset.tariff.clockValid = false
      ∧ (clockAt 6 1439 58).tariff.clock.second < 59
      ∧ ((clockAt 6 1438 59).tariff.clock.second = 59 ∧ (clockAt 6 1438 59).tariff.clock.minute < 1439)
      ∧ ((clockAt 5 1439 59).tariff.clock.minute = 1439 ∧ (clockAt 5 1439 59).tariff.clock.day < 6)
      ∧ (clockAt 6 1439 59).tariff.clock.day = 6 ∧ (after .secondMark (clockAt 6 1439 59)).tariff.clock = ⟨0, 0, 0⟩
      ∧ (committing .nextMinute).tariff.commit = .nextMinute
      ∧ ((committing (.at 4940 false)).tariff.clock.minute < 1439 ∧ 4940 ≤ 3 * 1440 + 619 + 1
          ∧ (after .secondMark (committing (.at 4940 false))).tariff.active = everyDay (.open 300)) := by decide +kernel

theorem everyDay_else : ∀ j : Fin 16, j ≠ 0 → (everyDay (.open 300))[j] = none := by decide +kernel

theorem everyDay_inForce (d m : Nat) (h : d < 7) :
    (everyDay (.open 300)).inForce ⟨d, m, 0⟩ 0 ⟨127#7, 0, Vector.replicate 4 (.open 300)⟩ := by
  refine ⟨by decide +kernel, ?_, Nat.zero_le _, fun j f hj hf => ?_⟩
  · have h7 : ∀ d : Fin 7, (127#7).getLsbD d.val = true := by decide +kernel
    exact h7 ⟨d, h⟩
  · rw [everyDay_else j hj] at hf; cases hf

/-- The mark of the day change on Saturday, and on a weekday, with a commit whose minute is 0 and with one that is not due. -/
theorem met_SecondMarkMovesClockAndTariff_commits :
    (∀ c ∈ [Commit.none, .nextMinute, .at 0 true, .at 1 true],
      let s : State := { committing c with tariff := { (committing c).tariff with clock := ⟨6, 1439, 59⟩ } }
      s.tariff.clockValid = true ∧ s.tariff.clock.second = 59 ∧ s.tariff.commit = c
        ∧ decide (s.tariff.clock.day = 6 ∧ 1439 ≤ s.tariff.clock.minute) = true ∧ s.sessions = [] ∧ s.lowered.runOut = [])
    ∧ (∀ c ∈ [Commit.at 7200 false, .at 7201 false, .at 0 true],
      let s : State := { committing c with tariff := { (committing c).tariff with
        clock := ⟨4, 1439, 59⟩, active := everyDay (.open 300), activePresent := true } }
      s.tariff.clockValid = true ∧ s.tariff.clock.second = 59 ∧ s.tariff.commit = c ∧ s.tariff.activePresent = true
        ∧ 5 * 1440 + 0 = 7200 ∧ s.sessions = [] ∧ s.lowered.runOut = [])
    ∧ (committing .none).tariff.activePresent = false
    ∧ (∀ d : Fin 7, (everyDay (.open 300)).inForce ⟨d.val, 0, 0⟩ 0 ⟨127#7, 0, Vector.replicate 4 (.open 300)⟩) :=
  ⟨by decide +kernel, by decide +kernel, by decide +kernel, fun d => everyDay_inForce _ _ d.isLt⟩

/-- A session with no limit of its own, one second short of a unit. -/
def plain (free : Bool) : Session :=
  { session with snapshot := ⟨1, { free := free, lowFunds := 0, idleLimit := 0 }⟩,
                 meter := { rate := 720, multiplier := 20, acc := 43200 } }

/-- A HELD session with two hold seconds left. -/
def held : State :=
  { having { session with state := .held, boundLine := none, hold := some 2 } with lines := State.reset.lines }

/-- No line of `having` runs a window or has a dialogue. -/
theorem having_quiet (x : Session) (p : Port) :
    ((having x).line p).window = none ∧ ∀ d, ((having x).line p).holder ≠ .dialogue d := by
  have h : ∀ p : Port, ((having session).line p).window = none
      ∧ (match ((having session).line p).holder with | .dialogue _ => false | _ => true) = true := by decide +kernel
  exact ⟨(h p).1, not_dialogue (h p).2⟩

theorem met_SecondMarkCountsForASession :
    (∀ (x : Session) (p : Port), ((having x).line p).window = none ∧ ∀ d, ((having x).line p).holder ≠ .dialogue d)
      ∧ (∀ free : Bool, (having (plain free)).sessions = [plain free] ∧ (plain free).state = .open
          ∧ (having (plain free)).tariff.clock.second ≠ 59 ∧ (∀ y ∈ (having (plain free)).accounts, y.lock = .open)
          ∧ (having (plain free)).link.host = .up ∧ (having (plain free)).link.downRemaining = none
          ∧ (having (plain free)).findAccount 55120 = some { account with active := 1 }
          ∧ 1 = ((plain free).meter.acc + (plain free).meter.rate * (plain free).meter.multiplier) / 57600
          ∧ (plain free).meter.capReached = false ∧ (plain free).snapshot.record.cap = 0
          ∧ (plain free).meter.charged + 1 ≤ 65535 ∧ 1 < account.balance ∧ account.chargedTotal + 1 ≤ 16777215
          ∧ (plain free).metered < 16777215 ∧ (plain free).snapshot.record.lowFunds = 0 ∧ (plain free).grace = none
          ∧ (plain free).countdown = none ∧ (plain free).snapshot.record.idleLimit = 0 ∧ (plain free).idle < 65535)
      ∧ (having { session with state := .stalled }).sessions = [{ session with state := .stalled }]
      ∧ (∀ p : Port, (held.line p).window = none) ∧ (∀ y ∈ held.accounts, y.lock = .open)
      ∧ held.sessions.map (fun x => (x.state, x.hold)) = [(.held, some 2)] := by
  refine ⟨having_quiet, ?_, ?_⟩ <;> decide +kernel

/-- A state in which each count outside the sessions runs out at the next mark, and one in which only a noise window does. -/
theorem met_SecondMarkCountsForASession_expiries :
    (∀ x ∈ [(on { state := .answering, window := some 1 }, Instr.answerWindowExpiry 3),
            (on { state := .searching, window := some 1 }, .speedWindowExpiry 3),
            (on { call with state := .dropping, window := some 1 }, .drainLimitExpiry 3),
            (on { state := .guard, window := some 1 }, .guardTimeExpiry 3),
            (on { state := .resting, window := some 1 }, .retryPeriodExpiry 3),
            (on { call with holder := .dialogue { talk .entry with limit := .running 1 } }, .signOnLimitExpiry 3),
            (on { call with holder := .dialogue { talk .waiting with waitLimit := some 1 } }, .waitLimitExpiry 3),
            ({ State.reset with accounts := [{ account with lock := .lockedTimed 1 }] }, .lockTimerExpiry 55120),
            ({ State.reset with link := { host := .down, downRemaining := some 1 } }, .hostDownLimitExpiry)],
        x.1.sessions = [] ∧ x.1.withinMinute ∧ x.1.lowered.runOut = [x.2])
      ∧ (let s := on { call with noiseWindow := some 1, noiseCount := 3 }
         s.sessions = [] ∧ s.withinMinute ∧ s.lowered.runOut = [] ∧ (s.lowered.line 3).noiseCount = 0) := by decide +kernel

/-- `having` with an account of a balance. -/
def charged (x : Session) (balance : Nat) : State :=
  { having x with accounts := [{ account with active := 1, balance := balance }] }

/-- An OPEN session a unit of whose charge falls due at the next mark, with what the mark finds: a cap that it reaches, a balance
that it passes with a grace running, a balance that it brings to the low-funds threshold and to 0, the idle warning, and a
grace and a countdown that run on. -/
theorem met_SecondMarkCountsForASession_charge :
    (∀ c ∈ [(1, 500, 0, 0, 0, none, none), (0, 0, 0, 0, 0, some 2, none), (0, 11, 10, 0, 60, none, none),
            (0, 1, 0, 0, 60, none, some 2), (0, 500, 0, 839, 60, none, none),
            ((0, 500, 0, 0, 60, none, none) : Nat × Nat × Nat × Nat × Nat × Option Nat × Option Nat)],
      let x : Session := { session with
        snapshot := ⟨1, { cap := c.1, lowFunds := c.2.2.1, idleLimit := 15, grace := c.2.2.2.2.1 }⟩, idle := c.2.2.2.1,
        meter := { rate := 720, multiplier := 20, acc := 43200 }, grace := c.2.2.2.2.2.1, countdown := c.2.2.2.2.2.2 }
      let s := charged x c.2.1
      s.sessions = [x] ∧ x.state = .open ∧ s.withinMinute ∧ s.lowered.runOut = [] ∧ s.link.host = .up ∧ s.waitQueue = []
        ∧ s.findAccount x.account = some { account with active := 1, balance := c.2.1 } ∧ account.lock = .open
        ∧ x.meter.charged ≤ (if c.1 = 0 then 65535 else c.1) ∧ (x.grace = none ∨ x.grace = some 2)
        ∧ (x.countdown = none ∨ x.countdown = some 2) ∧ min 65535 (x.idle + 1) ≠ 15 * 60
        ∧ ¬ (c.2.1 - 1 = 0 ∧ x.grace = none ∧ x.snapshot.record.grace = 0))
    ∧ (∀ c ∈ [(1, 0, none, none), (0, 60, some 1, none), (500, 60, none, some 1),
              ((500, 899, none, none) : Nat × Nat × Option Nat × Option Nat)],
      let x : Session := { session with
        snapshot := ⟨1, { idleLimit := 15, grace := 0 }⟩, idle := c.2.1,
        meter := { rate := 720, multiplier := 20, acc := 43200 }, grace := c.2.2.1, countdown := c.2.2.2 }
      let s := charged x c.1
      s.sessions = [x] ∧ x.state = .open ∧ s.withinMinute ∧ s.lowered.runOut = [] ∧ s.link.host = .up ∧ s.waitQueue = []
        ∧ s.findAccount x.account = some { account with active := 1, balance := c.1 } ∧ x.meter.charged ≤ 65535
        ∧ x.boundLine = some 3 ∧ (s.line 3).state = .connected
        ∧ (after .secondMark s).bills.map (·.cause)
          = [if c.1 ≤ 1 then .fundsExhausted else if c.2.2.2 = some 1 then .closedHours else .idle]) := by decide +kernel

/-- A HELD session whose hold ends at the next mark, and a session before a minute mark. -/
theorem met_SecondMarkCountsForASession_holdAndLatch :
    (let x := { session with state := .held, boundLine := none, hold := some 1 }
     let s : State := { having x with lines := State.reset.lines }
     s.sessions = [x] ∧ x.hold = some 1 ∧ s.withinMinute ∧ s.lowered.runOut = [] ∧ s.waitQueue = [])
    ∧ ∀ st ∈ [SessionState.open, .stalled],
      let x := { session with state := st }
      let s : State := { having x with tariff := { clockValid := true, clock := ⟨3, 700, 59⟩, activePresent := true,
                                                   active := everyDay (.open 300), band := 1 } }
      s.sessions = [x] ∧ s.tariff.clockValid = true ∧ s.tariff.clock.second = 59 ∧ s.lowered.runOut = [] ∧ s.waitQueue = []
        ∧ ∀ k ∈ [0, 1], (s.lowered.runMinute false k s.shareTasks).sessions.map (fun y => (y.meter.rate, y.meter.multiplier))
            = [(300, 16)] := by decide +kernel

/-- A session before a minute mark whose selection closes or reopens its class, at the old table and by a switch; with rates absent
before; and whose rate stays open. -/
theorem met_SecondMarkCountsForASession_signals :
    ∀ st ∈ [SessionState.open, .stalled], ∀ switch : Bool,
      ∀ r ∈ [(Rate.open 300, Rate.closed, some 300), (.closed, .open 300, none), (.open 300, .open 5, none)],
      let x := { session with state := st, snapshot := ⟨1, { lowFunds := 0, idleLimit := 0 }⟩,
                              countdown := if r.1 = .closed then some 9 else none }
      let table := everyDay r.2.1
      let s : State := { having x with tariff := {
        clockValid := true, clock := ⟨3, 700, 59⟩, activePresent := true, commit := if switch then .nextMinute else .none,
        active := if switch then everyDay r.1 else table, standby := table, period := some ⟨0, Vector.replicate 4 r.1⟩ } }
      s.sessions = [x] ∧ s.tariff.clockValid = true ∧ s.tariff.clock.second = 59 ∧ s.lowered.runOut = [] ∧ s.waitQueue = []
        ∧ x.boundLine = some 3 ∧ s.tariff.period = some ⟨0, Vector.replicate 4 r.1⟩
        ∧ x.told ⟨0, Vector.replicate 4 r.1⟩ ⟨0, Vector.replicate 4 r.2.1⟩ = decide (r.2.1 = .closed)
        ∧ ∀ k ∈ [0, 1], (s.lowered.runMinute false k s.shareTasks).tariff.period = some ⟨0, Vector.replicate 4 r.2.1⟩
          ∧ (s.lowered.runMinute false k s.shareTasks).sessions.map (·.countdown) = [r.2.2] := by decide +kernel

theorem met_WindowExpiryEndsTheCall :
    ∀ st ∈ [LineState.answering, .searching], ((on { state := st, window := some 1 }).line 3).state = st
      ∧ ((on { state := st, window := some 1 }).line 3).holder = .none := by decide +kernel

theorem met_DroppingGuardAndRestEnd :
    (((on { call with state := .dropping, window := some 1 }).line 3).state = .dropping
        ∧ ((on { call with state := .dropping }).line 3).output = [] ∧ ((on { call with state := .dropping }).line 3).fill = 0)
      ∧ ((on { call with state := .dropping, output := [⟨65#7, none⟩] }).line 3).output ≠ []
      ∧ ((on { call with state := .dropping, fill := 1 }).line 3).fill ≠ 0
      ∧ (∀ d ∈ [Destination.idle, .resting 7, .latched],
          ((on { state := .guard, destination := d }).line 3).state = .guard
            ∧ ((on { state := .guard, destination := d }).line 3).destination = d)
      ∧ ((on { state := .resting, retryCount := 2 }).line 3).state = .resting := by decide +kernel

theorem met_LimitsOfDialogueNoiseAndLockExpire :
    (∀ ph ∈ [Phase.greeting, .entry, .waiting],
        ((inPhase ph).line 3).state = .connected ∧ ((inPhase ph).line 3).holder = .dialogue (talk ph) ∧ (talk ph).phase = ph)
      ∧ ((on call).line 3).state = .connected
      ∧ ({ State.reset with accounts := [{ account with lock := .lockedTimed 1 }] } : State).findAccount 55120
          = some { account with lock := .lockedTimed 1 } := by decide +kernel

theorem met_ExpiriesCloseSessions :
    (∀ x ∈ [{ session with state := .held, boundLine := none, hold := some 1 }, session,
            { session with grace := some 1 }, { session with countdown := some 1 }],
        (having x).findSession 4 = some x ∧ (having x).waitQueue = [] ∧ (x.state = .held → x.boundLine = none)
          ∧ ((having x).line 3).state = .connected)
      ∧ session.state = .open ∧ session.snapshot.record.idleLimit ≠ 0 := by decide +kernel

/-- One session on line 3, and line 9 waiting for the one slot, for an account. -/
def waiting (a : Account) : State :=
  { having session with
    lines := (having session).lines.set 9 { call with
      holder := .dialogue ⟨.waiting, 0, .paused 50, some 77, some 20⟩ },
    waitQueue := [9], accounts := [a, { account with active := 1 }],
    tariff := { clockValid := true, clock := ⟨3, 700, 20⟩, activePresent := true, active := everyDay (.open 720),
                period := some ⟨0, Vector.replicate 4 (.open 720)⟩ },
    link := { limits := { hostSlots := 1 } } }

/-- The account of the line that waits. -/
def waiter : Account := { account with number := 77 }

theorem waiting_waits (a : Account) : (waiting a).waitsFor 9 77 := ⟨rfl, _, rfl, rfl, rfl⟩

theorem waiting_passes : (waiting waiter).headPasses 77 waiter :=
  ⟨by decide +kernel, rfl, ⟨⟨0, Vector.replicate 4 (.open 720)⟩, 720, rfl, by decide +kernel⟩, .inl (by decide +kernel),
    by decide +kernel, by decide +kernel⟩

/-- The account of two more lines that wait. -/
def other : Account := { account with number := 88, limit := 1 }

/-- `waiting`, with lines 12 and 15 behind line 9. -/
def queue (a : Account) : State :=
  let l : Line := { call with holder := .dialogue ⟨.waiting, 0, .paused 50, some 88, some 20⟩ }
  { waiting a with lines := ((waiting a).lines.set 12 l).set 15 l, waitQueue := [9, 12, 15],
                   accounts := [a, other, { account with active := 1 }] }

/-- The account of the head, locked while the line waited. -/
def locked : Account := { waiter with lock := .lockedHeld }

theorem queue_heads (a : Account) :
    (queue a).ready ∧ (queue a).waitQueue = 9 :: 12 :: [15] ∧ (queue a).waitQueue.Nodup ∧ (9 : Port) ∉ ([12, 15] : List Port)
      ∧ (queue a).waitsFor 9 77 ∧ (queue a).waitsFor 12 88 ∧ (queue a).findSession (beNat [0#8, 4#8]) = some session
      ∧ ((queue a).line 9).holder = .dialogue ⟨.waiting, 0, .paused 50, some 77, some 20⟩
      ∧ (queue a).sessions.length = 1 ∧ (queue a).link.limits.hostSlots = 1 :=
  ⟨⟨rfl, rfl, rfl, rfl⟩, rfl, (by decide : ([9, 12, 15] : List Port).Nodup), by decide, ⟨rfl, _, rfl, rfl, rfl⟩, ⟨rfl, _, rfl, rfl, rfl⟩, rfl, rfl, rfl, rfl⟩

theorem queue_fails : (queue locked).headFails 77 slotSuspended := .inr ⟨locked, rfl, .inl ⟨rfl, by decide⟩⟩

theorem queue_passes :
    (queue waiter).headPasses 77 waiter ∧ (queue locked).headPasses 88 other :=
  ⟨⟨rfl, rfl, ⟨⟨0, Vector.replicate 4 (.open 720)⟩, 720, rfl, by decide +kernel⟩, .inl (by decide +kernel), by decide +kernel,
      by decide +kernel⟩,
    ⟨rfl, rfl, ⟨⟨0, Vector.replicate 4 (.open 720)⟩, 720, rfl, by decide +kernel⟩, .inl (by decide +kernel), by decide +kernel,
      by decide +kernel⟩⟩

/-- Chapter 5's queue at a term peak: a close at H drops a head whose account has been locked and admits the next; a raise of H
then drops the last, whose account is at its limit. -/
theorem test_termPeak :
    (let t := after (.endSession [0#8, 4#8]) (queue locked)
     let u := after (.setLimits [20#8, 30#8, 0#8, 120#8, 3#8, 5#8, 3#8, 0#8, 10#8, 10#8, 2#8])
       { t with link := { limits := { hostSlots := 1 } } }
     t.waitQueue = [15] ∧ (t.line 9).state = .dropping ∧ (t.line 12).holder = .session 5 ∧ t.sessions.map (·.account) = [88]
       ∧ u.waitQueue = [] ∧ (u.line 15).state = .dropping ∧ u.sessions.length = 1) := by decide +kernel

/-- One session, no slot of the next band reached: the band is settled. -/
theorem having_settled (x : Session) (l : Line) : (having x l).bandSettled :=
  ⟨(by decide : 12 < 20), (by decide : 20 < 28), .inl ⟨rfl, (by decide : 1 < 12)⟩⟩

theorem queue_settled (a : Account) : (queue a).bandSettled :=
  ⟨(by decide : 12 < 20), (by decide : 20 < 28), .inl ⟨rfl, (by decide : 1 < 12)⟩⟩

/-- A settled band that the next close moves, and one that it does not: the sessions of chapter 7's example. -/
theorem crowded_settled :
    ∀ c ∈ [(20, 2), (19, 2), (18, 2)], (crowded (having session) c.1 c.2).bandSettled := by
  unfold State.bandSettled LoadSteps.settled; decide +kernel

/-- Sessions on both sides of rounding and of the class minimum, free and not. -/
def closing (free : Bool) (acc minimum : Nat) : Session :=
  { session with snapshot := ⟨1, { free := free, minCharge := minimum }⟩,
                 meter := { rate := 720, multiplier := 20, acc := acc } }

theorem met_EndSessionFinalizesTheCharge :
    (∀ free : Bool, ∀ acc ∈ [28799, 28800], ∀ minimum ∈ [0, 2],
      let x := closing free acc minimum
      (having x).ready ∧ (having x).waitQueue = [] ∧ beNat [0#8, 4#8] ≠ 0 ∧ (having x).findSession (beNat [0#8, 4#8]) = some x
        ∧ (having x).findAccount x.account = some { account with active := 1 } ∧ account.chargedTotal ≤ 16777215
        ∧ x.meter.charged ≤ 65535 ∧ x.meter.rounded = false ∧ x.meter.minApplied = false
        ∧ x.boundLine = some 3 ∧ ((having x).line 3).state = .connected)
    ∧ (beNat [0#8, 0#8] = 0 ∧ (having session).findSession (beNat [0#8, 5#8]) = none)
    ∧ (held.ready ∧ held.waitQueue = [] ∧ held.findAccount 55120 = some { account with active := 1 }
        ∧ (held.findSession (beNat [0#8, 4#8])).map (fun x => (x.state, x.boundLine)) = some (.held, none))
    ∧ (waiting waiter).waitsFor 9 77 ∧ (waiting waiter).headPasses 77 waiter
    ∧ ((waiting waiter).ready ∧ (waiting waiter).waitQueue = [9] ∧ beNat [0#8, 4#8] ≠ 0
        ∧ (waiting waiter).findSession (beNat [0#8, 4#8]) = some session ∧ session.boundLine ≠ some 9 ∧ session.account ≠ 77
        ∧ (waiting waiter).sessions.length ≤ 32
        ∧ (waiting waiter).sessions.length ≤ (waiting waiter).link.limits.hostSlots) :=
  ⟨by decide +kernel, by decide +kernel, by decide +kernel, waiting_waits _, waiting_passes, by decide +kernel⟩

/-- Line 9 at the head with two lines behind it, at the host slot limit: its account passes, and its account fails and that of the
next passes. -/
theorem met_EndSessionFinalizesTheCharge_queue :
    (∀ a, (queue a).ready ∧ (queue a).waitQueue = 9 :: 12 :: [15] ∧ (queue a).waitQueue.Nodup
        ∧ (queue a).waitsFor 9 77 ∧ (queue a).waitsFor 12 88 ∧ (queue a).findSession (beNat [0#8, 4#8]) = some session
        ∧ (queue a).sessions.length = (queue a).link.limits.hostSlots ∧ (queue a).bandSettled)
    ∧ (queue waiter).headPasses 77 waiter ∧ (queue locked).headFails 77 slotSuspended ∧ (queue locked).headPasses 88 other
    ∧ beNat [0#8, 4#8] ≠ 0 ∧ session.boundLine = some 3 ∧ session.account = 55120 := by
  refine ⟨fun a => ?_, queue_passes.1, queue_fails, queue_passes.2, by decide, rfl, rfl⟩
  have ⟨h1, h2, h3, _, h5, h6, h7, _⟩ := queue_heads a
  exact ⟨h1, h2, h3, h5, h6, h7, rfl, queue_settled a⟩

/-- `queue` with two sessions at a host slot limit that an order has lowered to 1. -/
def overfull (l : Line := call) : State := { crowded (queue waiter) 2 0 with lines := (queue waiter).lines.set 3 { l with holder := .session 4 } }

/-- A close that leaves slots in use at the host slot limit: the lines go on waiting (R105). -/
theorem test_lowered :
    (let t := after (.endSession [0#8, 4#8]) (overfull)
     t.waitQueue = [9, 12, 15] ∧ t.sessions.map (·.number) = [100] ∧ (t.line 9).holder = ((overfull).line 9).holder) := by
  decide +kernel

/-- The statements about a close with lines waiting and slots in use above the host slot limit (`ExpiriesCloseSessions`,
`EndSessionFinalizesTheCharge`, `CarrierBeginsAndEndsTheCall`, `FaultsInConnected`, `LineServiceActions`, `DropLineEndsTheCall`). -/
theorem met_closes_aboveTheLimit :
    (∀ l ∈ [call, { call with carrierTiming := .loss }, { call with noiseCount := 7 }],
      let s := overfull l
      s.ready ∧ s.waitQueue = [9, 12, 15] ∧ s.link.limits.hostSlots < s.sessions.length ∧ s.findSession 4 = some session
        ∧ s.findAccount 55120 = some { account with active := 1 } ∧ session.boundLine = some 3 ∧ 3 ∉ s.waitQueue
        ∧ (s.line 3).state = .connected ∧ (s.line 3).holder = .session 4 ∧ (s.line 3).carrierTiming = l.carrierTiming
        ∧ (s.line 3).noiseCount = l.noiseCount ∧ (s.line 3).output = [])
    ∧ ∀ x ∈ [{ session with snapshot := ⟨1, { holdTime := 0 }⟩ }, { session with grace := some 1 },
             { session with countdown := some 1 }, { session with state := .held, boundLine := none, hold := some 1 }],
        let s : State := { overfull with sessions := [x, filler 0] }
        s.link.limits.hostSlots < s.sessions.length ∧ s.findSession 4 = some x ∧ (x.state = .held → x.boundLine = none) := by
  decide +kernel

/-- The band of the statements about a close (`ExpiriesCloseSessions`, `EndSessionFinalizesTheCharge`, `HostLossStallsThenCloses`,
`CarrierBeginsAndEndsTheCall`, `FaultsInConnected`, `RestartClearsThePart`, `LineServiceActions`, `DropLineEndsTheCall` and the closes
of `SecondMarkCountsForASession`): the states of their witnesses have it settled, where the close leaves it and where it moves
it. -/
theorem met_closes_band :
    (∀ x l, (having x l).bandSettled) ∧ (having session).tariff.steps.fallen 0 0 = 0
      ∧ (∀ c ∈ [(20, 2), (19, 2), (18, 2)], let s := crowded (having session) c.1 c.2
          s.ready ∧ s.waitQueue = [] ∧ s.findSession 4 = some session ∧ s.sessions.length = c.1
            ∧ s.tariff.steps.fallen s.tariff.band (s.sessions.length - 1) = if c.1 = 18 then 1 else 2)
      ∧ ∀ c ∈ [(20, 2), (19, 2), (18, 2)], (crowded (having session) c.1 c.2).bandSettled :=
  ⟨having_settled, by decide, by decide +kernel, crowded_settled⟩

/-- Half a unit left over at a close, one unit short of a limit and at it: the cap of 5 and the ceiling of 65,535. -/
theorem met_EndSessionFinalizesTheCharge_limits :
    ∀ c ∈ [(5, 4, 5, true, true), (5, 5, 5, false, true), (0, 65534, 65535, true, false),
           ((0, 65535, 65535, false, false) : Nat × Nat × Nat × Bool × Bool)],
      let x : Session := { session with snapshot := ⟨1, { cap := c.1 }⟩,
                                        meter := { rate := 720, multiplier := 20, acc := 28800, charged := c.2.1 } }
      x.meter.charged ≤ (if c.1 = 0 then 65535 else c.1) ∧ (having x).findSession (beNat [0#8, 4#8]) = some x
        ∧ (after (.endSession [0#8, 4#8]) (having x)).bills.map (fun b => (b.meter.charged, b.meter.rounded, b.meter.capReached))
          = [(c.2.2.1, c.2.2.2.1, c.2.2.2.2)] := by decide +kernel

theorem met_HostLossStallsThenCloses :
    (let s : State := { inPhase .waiting with waitQueue := [3], link := { limits := { linkTimeout := 30 }, timeoutRunning := true } }
     s.link.host = .up ∧ s.link.timeoutRunning = true ∧ 3 ∈ s.waitQueue ∧ (s.line 3).state = .connected
       ∧ (s.line 3).holder = .dialogue (talk .waiting) ∧ s.waitQueue = [3] ∧ s.sessions = [])
    ∧ (let s : State := { having session with link := { limits := { linkTimeout := 30 }, timeoutRunning := true } }
       s.link.host = .up ∧ s.link.timeoutRunning = true ∧ s.sessions.filter (fun y => y.state == .open) = [session]
         ∧ session.boundLine = some 3 ∧ 3 ∉ s.waitQueue)
    ∧ (let s : State := { having { session with state := .stalled } with link := { host := .down, downRemaining := some 1 } }
       s.link.host = .down ∧ s.link.downRemaining = some 1 ∧ s.waitQueue = [] ∧ s.sessions.map (·.state) = [.stalled]
         ∧ s.findSession 4 = some { session with state := .stalled } ∧ session.boundLine = some 3
         ∧ (s.line 3).state = .connected ∧ ∀ x ∈ s.sessions, x.boundLine ≠ some 9) := by decide +kernel

theorem met_RingDetector :
    (let l : Line := { state := .idle, ringInput := true, presenceTimed := true }
     ((on l).line 3).state = .idle ∧ ((on l).line 3).phase = .on ∧ ((on l).line 3).presenceTimed = true)
    ∧ (let l : Line := { state := .ringing, ringInput := true, presenceTimed := true, ringCount := 1 }
       ((on l).line 3).state = .ringing ∧ ((on l).line 3).phase = .on ∧ ((on l).line 3).presenceTimed = true)
    ∧ (∀ n ∈ [0, 1], let l : Line := { state := .ringing, phase := .off, absenceTimed := true, ringCount := n }
       ((on l).line 3).state = .ringing ∧ ((on l).line 3).phase = .off ∧ ((on l).line 3).absenceTimed = true
         ∧ if n = 0 then ((on l).line 3).ringCount + 1 < ((on l).line 3).answerRingCount
           else ((on l).line 3).ringCount + 1 = ((on l).line 3).answerRingCount)
    ∧ (let l : Line := { state := .ringing, abandonRunning := true, ringCount := 1 }
       ((on l).line 3).state = .ringing ∧ ((on l).line 3).abandonRunning = true) := by decide +kernel

theorem met_CarrierBeginsAndEndsTheCall :
    ((on { state := .answering, carrierInput := true, carrierTiming := .present }).line 3).carrierTiming = .present
      ∧ (∀ st ∈ [LineState.searching, .dropping],
          ((on { state := st, carrierTiming := .loss }).line 3).carrierTiming = .loss
            ∧ ((on { state := st, carrierTiming := .loss }).line 3).state = st)
      ∧ (let s := having session { call with carrierTiming := .loss }
         (s.line 3).carrierTiming = .loss ∧ (s.line 3).state = .connected ∧ (s.line 3).holder = .session 4
           ∧ s.findSession 4 = some session ∧ session.snapshot.record.holdTime ≠ 0)
      ∧ (let s := on { call with carrierTiming := .loss, holder := .dialogue (talk .entry) }
         (s.line 3).carrierTiming = .loss ∧ (s.line 3).state = .connected ∧ (s.line 3).holder = .dialogue (talk .entry))
      ∧ (let x := { session with snapshot := ⟨1, { holdTime := 0 }⟩ }
         let s := having x { call with carrierTiming := .loss }
         (s.line 3).carrierTiming = .loss ∧ (s.line 3).state = .connected ∧ (s.line 3).holder = .session 4
           ∧ s.findSession 4 = some x ∧ x.boundLine = some 3 ∧ x.snapshot.record.holdTime = 0 ∧ s.waitQueue = []) := by
  decide +kernel

theorem met_SearchFindsSpeedOrFails :
    (∀ n ∈ [0, 1, 2], ((on { state := .searching, searchAttempts := n }).line 3).state = .searching
        ∧ ((on { state := .searching, searchAttempts := n }).line 3).settling = false
        ∧ ((on { state := .searching, searchAttempts := n }).line 3).holder = .none)
      ∧ matchSpeed 1459 = some .b600 ∧ (State.reset.messages[slotBanner]).length ≤ 64
      ∧ (State.reset.messages[slotPrompt]).length ≤ 64
      ∧ (∀ sp ∈ [Speed.b110, .b150, .b300, .b600, .b1200], matchSpeed 1458 ≠ some sp) ∧ (12#7 : Code) ≠ 13#7 := by decide +kernel

/-- Each kind of character, at the ends of its range: the other control codes 0 and 31, the printable 32 and 126 and TAB; a
partial record empty, full, with its latch set, and with eight marks. -/
theorem met_AssemblyFollowsTheTables :
    (∀ c ∈ [0#7, 31#7], c.toNat < 32 ∧ c ≠ 8#7 ∧ c ≠ 9#7 ∧ c ≠ 13#7 ∧ c ≠ 24#7)
      ∧ (∀ c ∈ [32#7, 126#7, (9#7 : Code)], (32 ≤ c.toNat ∧ c.toNat ≤ 126) ∨ c = 9#7)
      ∧ (let a : AssemblySettings := { marking := true }
         let q : Partial := ⟨codes (List.replicate 127 65), [0, 1, 2, 3, 4, 5, 6], false, false⟩
         (a.marking = true ∧ q.marks.length < 8 ∧ 47#7 = a.separator ∧ q.latch = false) ∧ q.buffer.length < 128
           ∧ (q.assemble a true 65#7).rest.buffer.length = 128
           ∧ ((q.assemble a true 65#7).rest.assemble a true 65#7).bell = true)
      ∧ (({} : Partial).latch = false ∧ ({} : Partial).buffer = []) ∧ (⟨[65#7], [], true, false⟩ : Partial).latch = true := by
  decide +kernel

/-- Line 3 in ENTRY, with the line's own settings and echo off, before the mark of its record and behind it. -/
theorem met_CharacterIsAssembled_entry :
    ∀ q ∈ [({} : Partial), ⟨[52#7], [1], false, false⟩],
      let s := on { call with holder := .dialogue (talk .entry), echo := false, partialRecord := q }
      (s.line 3).state = .connected ∧ (s.line 3).holder = .dialogue (talk .entry) ∧ (talk .entry).phase = .entry
        ∧ (s.line 3).accepts 65#7 false ∧ (65#7 : Code) ≠ 13#7 ∧ ((after (.characterReceived 3 65#7 false) s).line 3).shown
          = [if q.marks = [] then 65#7 else 88#7] := by decide +kernel

/-- Line 3 in a session, its parity even, odd, and not checked, with a character that each accepts. -/
theorem met_CharacterIsAssembled :
    (having session).assembles 3 4 session ∧ ((having session).line 3).accepts 65#7 false
      ∧ ((having session { call with parity := some .odd }).line 3).accepts 65#7 true
      ∧ ((having session { call with parityCheck := false }).line 3).accepts 65#7 true
      ∧ (({} : Partial).assemble {} false 65#7).ended = none := by decide +kernel

theorem met_CharacterIsAssembled_recordEnds :
    (∀ n ∈ [48, 49], let s : State := { having session with link := { reports := List.replicate n (.billsWaiting 0) } }
        s.assembles 3 4 session ∧ (s.line 3).accepts 13#7 true ∧ (s.hasRoom ↔ n = 48))
      ∧ (({} : Partial).assemble {} false 13#7).ended = some .complete
      ∧ (({} : Partial).assemble ⟨.count, 1, true, false, 47#7⟩ false 65#7).ended = some .exact := by decide +kernel

theorem met_ErrorCharacterIsCounted :
    (∀ sub : Bool, let l := { call with substitute := sub, noiseCount := 6 }
      ((on l).line 3).state = .connected ∧ ((on l).line 3).noiseCount + 1 < (on l).policies.noise.noiseLimit
        ∧ ((on l).line 3).parityCheck = true ∧ ((on l).line 3).parity = some .even ∧ onesOf 65#7 true % 2 = 1
        ∧ ((on l).line 3).accepts 42#7 true)
      ∧ (∀ n, ((inPhase .entry).line 3).holder ≠ .session n)
      ∧ ((having session).line 3).holder = .session 4 ∧ (having session).findSession 4 = some session := by
  refine ⟨by decide +kernel, not_session (by decide +kernel), by decide +kernel⟩

theorem met_FaultsInConnected :
    (∀ m ∈ [PolicyMode.latch, .retry, .report, .ignore], ∀ ph ∈ [Phase.greeting, .entry], ∀ sub : Bool,
      let s : State := { on { call with holder := .dialogue (talk ph), noiseCount := 7, substitute := sub } with
        policies := { noise := ⟨m, 2, 3, 8⟩, longSpace := ⟨m, 1, 3, 0⟩ } }
      (s.line 3).state = .connected ∧ (s.line 3).holder = .dialogue (talk ph) ∧ (talk ph).phase = ph
        ∧ (s.line 3).parityCheck = true ∧ (s.line 3).parity = some .even ∧ onesOf 65#7 true % 2 = 1
        ∧ s.policies.noise.noiseLimit ≤ (s.line 3).noiseCount + 1 ∧ s.policies.noise.mode = m ∧ s.policies.longSpace.mode = m
        ∧ (s.line 3).accepts 42#7 true)
    ∧ (∀ m ∈ [PolicyMode.latch, .retry, .report, .ignore], ∀ hold ∈ [0, 120], ∀ sub : Bool,
      let x := { session with snapshot := ⟨1, { holdTime := hold }⟩ }
      let s : State := { having x { call with noiseCount := 7, substitute := sub } with
        policies := { noise := ⟨m, 2, 3, 8⟩, longSpace := ⟨m, 1, 3, 0⟩ } }
      (s.line 3).state = .connected ∧ (s.line 3).holder = .session 4 ∧ s.findSession 4 = some x ∧ x.state = .open
        ∧ x.boundLine = some 3 ∧ s.waitQueue = [] ∧ s.policies.noise.noiseLimit ≤ (s.line 3).noiseCount + 1
        ∧ s.policies.noise.mode = m ∧ s.policies.longSpace.mode = m)
    ∧ ∀ n, ((inPhase .entry).line 3).holder ≠ .session n :=
  ⟨by decide +kernel, by decide +kernel, not_session (by decide +kernel)⟩

theorem met_CharactersNotTaken :
    (∀ ph ∈ [Phase.greeting, .waiting], ((inPhase ph).line 3).state = .connected
        ∧ ((inPhase ph).line 3).holder = .dialogue (talk ph) ∧ ((inPhase ph).line 3).accepts 65#7 false)
      ∧ (having { session with state := .stalled }).findSession 4 = some { session with state := .stalled }
      ∧ (let l := { call with waitingRecord := some ⟨.complete, false, [], [65#7]⟩ }
         ((having session l).line 3).waitingRecord ≠ none ∧ (having session l).findSession 4 = some session)
      ∧ ((on { call with state := .dropping }).line 3).state = .dropping := by decide +kernel

theorem met_BreakMakesABreakRecord :
    (∀ w ∈ [none, some ⟨.complete, false, [], [65#7]⟩], ∀ n ∈ [48, 49],
        let s : State := { having session { call with space := .breakPending, waitingRecord := w } with
          link := { reports := List.replicate n (.billsWaiting 0) } }
        (s.line 3).state = .connected ∧ (s.line 3).space ≠ .longSpace ∧ (s.line 3).holder = .session 4
          ∧ s.findSession 4 = some session ∧ (s.line 3).drainWanted = false ∧ (s.hasRoom ↔ n = 48))
      ∧ (∀ ph ∈ [Phase.greeting, .entry, .waiting], ((inPhase ph).line 3).state = .connected
          ∧ ((inPhase ph).line 3).holder = .dialogue (talk ph) ∧ ((inPhase ph).line 3).space ≠ .longSpace)
      ∧ (having { session with state := .stalled }).findSession 4 = some { session with state := .stalled }
      ∧ (∀ w ∈ [none, some ⟨.complete, false, [], [65#7]⟩], ∀ n ∈ [47, 48],
        let s : State := { having session { call with waitingRecord := w, drainWanted := true, output := [⟨65#7, none⟩] } with
          link := { reports := List.replicate n (.billsWaiting 0) } }
        (s.line 3).state = .connected ∧ (s.line 3).space ≠ .longSpace ∧ (s.line 3).holder = .session 4
          ∧ s.findSession 4 = some session ∧ (s.line 3).drainWanted = true ∧ (s.line 3).output ≠ [] ∧ session.state = .open
          ∧ (s.link.reports.length + 17 ≤ 64 ↔ n = 47)) := by decide +kernel

theorem met_CharacterSentLeavesTheQueue :
    (∀ n ∈ [64, 65],
      let s := having session { call with output := ⟨13#7, none⟩ :: List.replicate n ⟨65#7, none⟩, drainWanted := true }
      (s.line 3).state = .connected ∧ (s.line 3).output = ⟨13#7, none⟩ :: List.replicate n ⟨65#7, none⟩
        ∧ (s.line 3).fill = 0 ∧ (s.line 3).speed = some .b300 ∧ (s.line 3).parity = some .even
        ∧ (s.line 3).holder = .session 4 ∧ (s.line 3).drainWanted = true)
    ∧ (∀ k ∈ [0, 3], ((on { call with fill := k + 1 }).line 3).state = .connected ∧ ((on { call with fill := k + 1 }).line 3).fill = k + 1
        ∧ ((on { call with fill := k + 1 }).line 3).speed = some .b300
        ∧ ((on { call with fill := k + 1 }).line 3).parity = some .even)
    ∧ (((on call).line 3).state = .connected ∧ ((on call).line 3).fill = 0 ∧ ((on call).line 3).output = []) := by
  decide +kernel

theorem met_CharacterSentLeavesTheQueue_prompt :
    (let s := on { call with holder := .dialogue (talk .greeting), unreported := [1] }
     (s.line 3).state = .connected ∧ (s.line 3).holder = .dialogue (talk .greeting) ∧ (s.line 3).unreported = 1 :: []) := by
  decide +kernel

/-- What `typed` has typed is a well-formed record of account 55120 and the password `PA/X`. -/
theorem typed_hasTyped (a : Account) (r : Rate) : (typed a r).hasTyped 3 (talk .entry) 55120 password :=
  ⟨rfl, rfl, rfl, [53#7, 53#7, 49#7, 50#7, 48#7], rfl, by decide +kernel, by decide +kernel, by decide +kernel,
    by decide +kernel, by decide +kernel, by decide +kernel, by decide +kernel, by decide +kernel⟩

theorem typed_openAt (a : Account) (c : Fin 4) : (typed a).openAt c 720 :=
  ⟨⟨0, Vector.replicate 4 (.open 720)⟩, rfl, by revert c; decide +kernel⟩

theorem met_SignOnAdmits :
    (typed).hasTyped 3 (talk .entry) 55120 password ∧ (typed).openAt account.classNo 720
      ∧ ((typed).line 3).accepts 13#7 true ∧ (typed).link.host = .up ∧ (typed).findAccount 55120 = some account
      ∧ checkValue password = account.check ∧ account.lock = .open ∧ account.balance ≠ 0
      ∧ (∀ y ∈ (typed).sessions, y.account = 55120 → y.state ≠ .held) ∧ account.active < account.limit
      ∧ (typed).sessions.length + (typed).bills.length < 128 ∧ (typed).sessions.length < (typed).link.limits.hostSlots
      ∧ (∀ y ∈ (typed).sessions, y.number ≠ (typed).nextNumber)
      ∧ ((typed).classes[account.classNo]).lowFunds < account.balance
      ∧ (let a := { account with balance := 10 }
         (typed a).findAccount 55120 = some a ∧ a.balance ≠ 0 ∧ ((typed a).classes[a.classNo]).lowFunds ≠ 0
           ∧ a.balance ≤ ((typed a).classes[a.classNo]).lowFunds) := by
  refine ⟨typed_hasTyped _ _, typed_openAt _ _, ?_⟩; decide +kernel

/-- The same with 11 and 19 sessions of another account, where the admission moves the band, and with 18, where it does not. -/
theorem met_SignOnAdmits_band :
    (∀ c ∈ [(11, 0), (18, 1), (19, 1), (18, 2)], (crowded typed c.1 c.2).hasTyped 3 (talk .entry) 55120 password
        ∧ (crowded typed c.1 c.2).openAt account.classNo 720)
      ∧ (∀ c ∈ [(11, 0), (18, 1), (19, 1), (18, 2)], let s := crowded typed c.1 c.2
          s.sessions.length = c.1 ∧ s.findAccount 55120 = some account ∧ s.sessions.length < s.link.limits.hostSlots
            ∧ (∀ y ∈ s.sessions, y.account = 55120 → y.state ≠ .held) ∧ ∀ y ∈ s.sessions, y.number ≠ s.nextNumber)
      ∧ ∀ c ∈ [(11, 0), (18, 1), (19, 1), (18, 2)], (crowded typed c.1 c.2).bandSettled := by
  refine ⟨fun c _ => ⟨typed_hasTyped account (.open 720), typed_openAt account _⟩, by decide +kernel, ?_⟩
  unfold State.bandSettled LoadSteps.settled; decide +kernel

/-- A bill record, to fill the reservations with. -/
def bill : Bill :=
  ⟨9, 1, 0, 3, 3, {}, {}, 0, 0, 0, ⟨0, 0, 0, 0, false, false, false⟩, 0, .hangup⟩

theorem met_SignOnRefusalCountsTheAttempt :
    (∀ host ∈ [HostState.up, .down],
     let s : State := { on { call with holder := .dialogue (talk .entry), partialRecord := ⟨[65#7], [], false, false⟩ } with
       link := { host := host } }
     (s.line 3).state = .connected ∧ (s.line 3).holder = .dialogue (talk .entry) ∧ (talk .entry).phase = .entry
       ∧ (s.line 3).accepts 13#7 true ∧ s.link.host = host ∧ (talk .entry).attempts < 5
       ∧ ∀ m : Slot, (s.line 3).output.length + (s.messages[m]).length + (s.messages[slotPrompt]).length
            + (s.messages[slotGoodbye]).length ≤ 200)
    ∧ (∀ a r, (typed a r).hasTyped 3 (talk .entry) 55120 password)
    ∧ (typed { account with number := 1 }).findAccount 55120 = none
    ∧ (∀ a ∈ [{ account with check := 3042 }, { account with lock := .lockedHeld }, { account with balance := 0 },
          { account with active := 2 }, account], (typed a).findAccount 55120 = some a)
    ∧ ((typed account .closed).tariff.period = some ⟨0, Vector.replicate 4 .closed⟩
        ∧ (Vector.replicate 4 Rate.closed)[account.classNo] = .closed)
    ∧ (∀ a c, (typed a).openAt c 720) ∧ ((typed).classes[account.classNo]).free = false
    ∧ 128 ≤ ({ typed with bills := List.replicate 128 bill } : State).bills.length := by
  refine ⟨by decide +kernel, typed_hasTyped, by decide +kernel, by decide +kernel, by decide +kernel, typed_openAt,
    by decide +kernel, by decide +kernel⟩

/-- A sign-on record of one mark. -/
def parted (account password : List Nat) : Partial := ⟨codes account ++ codes password, [account.length], false, false⟩

/-- Each malformed form: no mark, two marks, FULL, the empty password of `4127/`, no digits, seven digits, a letter, value 0, and a
password of no, of 13 characters, with a space, and with a TAB. -/
theorem met_SignOnRefusalCountsTheAttempt_malformed :
    (⟨codes [52, 49], [], false, false⟩ : Partial).malformed ∧ (⟨codes [52, 65, 65], [1, 2], false, false⟩ : Partial).malformed
      ∧ ({ parted [52] [65] with lengthRefusal := true } : Partial).malformed
      ∧ (⟨codes [52, 49, 50, 55], [], true, false⟩ : Partial).malformed
      ∧ (parted [] [65]).malformed ∧ (parted [48, 48, 48, 52, 49, 50, 55] [65]).malformed ∧ (parted [52, 65] [65]).malformed
      ∧ (parted [48, 48, 48, 48, 48, 48] [65]).malformed ∧ (parted [52] []).malformed
      ∧ (parted [52] (List.replicate 13 65)).malformed ∧ (parted [52] [65, 32]).malformed ∧ (parted [52] [9]).malformed := by
  refine ⟨.inr (.inl rfl), .inr (.inr (.inl (by decide))), .inl rfl, .inr (.inl rfl), ?_⟩
  have one (a b : List Nat) (h : a.length = 0 ∨ 6 < a.length ∨ (∃ c ∈ (parted a b).buffer.take a.length, c.toNat < 48 ∨ 57 < c.toNat)
      ∨ (∀ c ∈ (parted a b).buffer.take a.length, c.toNat = 48) ∨ (parted a b).buffer.length ≤ a.length
      ∨ a.length + 12 < (parted a b).buffer.length ∨ ∃ c ∈ (parted a b).buffer.drop a.length, c.toNat < 33 ∨ 126 < c.toNat) :
      (parted a b).malformed := .inr (.inr (.inr (.inr ⟨a.length, rfl, h⟩)))
  refine ⟨one _ _ ?_, one _ _ ?_, one _ _ ?_, one _ _ ?_, one _ _ ?_, one _ _ ?_, one _ _ ?_, one _ _ ?_⟩ <;> decide +kernel

/-- An OPEN account whose check value is another, one failure short of the class limit and two short of it, under each lock
policy, and with lock repeats on both sides of the repeat limit. -/
theorem met_WrongPasswordsLockTheAccount :
    (∀ a r, (typed a r).hasTyped 3 (talk .entry) 55120 password)
    ∧ ∀ k ∈ [LockPolicy.off, .report, .timed, .latch], ∀ f ∈ [3, 4], ∀ rep ∈ [1, 2],
      let a := { account with check := 3042, failures := f, lockRepeats := rep }
      let s : State := { typed a with classes := Vector.replicate 4 { lockPolicy := k } }
      (s.line 3).accepts 13#7 true ∧ s.link.host = .up ∧ s.findAccount 55120 = some a ∧ checkValue password ≠ a.check
        ∧ a.lock = .open ∧ a.failures < 15 ∧ (a.failures + 1 < (s.classes[a.classNo]).failureLimit ↔ f = 3)
        ∧ (s.classes[a.classNo]).lockPolicy = k
        ∧ ((s.classes[a.classNo]).repeatLimit ≤ min 7 (a.lockRepeats + 1) ↔ rep = 2) := by
  refine ⟨typed_hasTyped, ?_⟩; decide +kernel

theorem met_SignOnReattachesOrWaits :
    (typed).hasTyped 3 (talk .entry) 55120 password ∧ (typed).openAt account.classNo 720
    ∧ (∀ balance ∈ [10, 11], ∀ warned : Bool,
       let x := { session with state := .held, boundLine := none, hold := some 1, fundsWarned := warned }
       let a := { account with active := 3, balance := balance }
       let s : State := { typed a with sessions :=
         [{ x with number := 7 }, x, { x with number := 1, hold := some 2 }, { x with number := 2, account := 1, hold := some 0 }] }
       s.findAccount 55120 = some a ∧ a.balance ≠ 0 ∧ s.findSession x.number = some x ∧ x.account = 55120 ∧ x.state = .held
         ∧ x.hold = some 1
         ∧ (∀ y ∈ s.sessions, y.account = 55120 → y.state = .held →
             ∃ k ∈ [1, 2], y.hold = some k ∧ (1 < k ∨ (1 = k ∧ x.number ≤ y.number)))
         ∧ (x.snapshot.record.lowFunds ≠ 0 ∧ (a.balance ≤ x.snapshot.record.lowFunds ↔ balance = 10)))
    ∧ (∀ wait ∈ [0, 1],
       let s : State := { typed with link := { limits := { hostSlots := 1, wait := wait } }, sessions := [{ session with account := 1 }] }
       (∀ y ∈ s.sessions, y.account = 55120 → y.state ≠ .held) ∧ account.active < account.limit
         ∧ s.sessions.length + s.bills.length < 128 ∧ s.link.limits.hostSlots ≤ s.sessions.length
         ∧ s.link.limits.wait = wait ∧ (talk .entry).limit = .running 50) := by
  refine ⟨typed_hasTyped _ _, typed_openAt _ _, ?_⟩; decide +kernel

/-- A reply that still waits to be sent. -/
def busy (held : Option Frame) : State :=
  { State.reset with link := { replyPath := some ⟨0x01#8, .done, []⟩, heldOrder := held } }

theorem met_FramesRefused :
    State.reset.ready ∧ State.reset.link.heldOrder = none ∧ State.reset.link.assembler = .hunting ∧ 240 < (241#8 : Byte).toNat
      ∧ ([0#8, 0#8].foldl (· + ·) (0x01#8 + BitVec.ofNat 8 2) + 254#8 ≠ (0#8 : Byte))
      ∧ (busy none).link.replyPath ≠ none ∧ (busy none).link.heldOrder = none
      ∧ (frameOf (.mark [0#8]) = some (0x01#8, [0#8]) ∧ lengthRight 0x01#8 [0#8] = false)
      ∧ (frameOf (.sendText [0#8, 4#8, 2#8, 65#8]) = some (0x28#8, [0#8, 4#8, 2#8, 65#8])
          ∧ lengthRight 0x28#8 [0#8, 4#8, 2#8, 65#8] = false)
      ∧ (let s : State := { State.reset with link := { assembler := .inFrame (0xC3#8 :: 0xF5#8 :: 7#8 :: [9#8]) } }
         s.link.heldOrder = none ∧ s.link.assembler = .inFrame (0xC3#8 :: 0xF5#8 :: 7#8 :: [9#8])
           ∧ frameOf (.mark [0#8, 7#8]) = some (0x01#8, [0#8, 7#8])
           ∧ [9#8].length + ([0#8, 7#8] : List Byte).length + 4 = (7#8 : Byte).toNat) := by decide +kernel

theorem met_HeldOrder :
    (frameOf (.queryTariff [0#8]) = some (0x1B#8, [0#8]) ∧ (Instr.queryTariff [0#8]).wellFormed = true)
      ∧ (busy none).link.replyPath ≠ none ∧ (busy none).link.heldOrder = none ∧ (busy none).link.assembler = .hunting
      ∧ (∀ x ∈ [0xE4#8, 0xE5#8], (busy (some ⟨0x1B#8, [0#8], x⟩)).link.heldOrder = some ⟨0x1B#8, [0#8], x⟩
          ∧ (busy (some ⟨0x1B#8, [0#8], x⟩)).link.assembler = .hunting
          ∧ ([0#8].foldl (· + ·) (0x1B#8 + BitVec.ofNat 8 1) + x = (0#8 : Byte) ↔ x = 0xE4#8)) := by decide +kernel

theorem met_OutboundFrames :
    ((busy none).link.replyPath = some ⟨0x01#8, .done, []⟩ ∧ (busy none).link.heldOrder = none)
      ∧ (let s : State := { State.reset with link := { reports := [.drained 4 3] } }
         s.link.replyPath = none ∧ s.link.reports = .drained 4 3 :: [] ∧ s.inputWait = [])
      ∧ ∀ n ∈ [48, 49],
        let s : State := { having session { call with waitingRecord := some ⟨.complete, false, [], [65#7]⟩ } with
          inputWait := [3], link := { reports := .billsWaiting 0 :: List.replicate n (.billsWaiting 0) } }
        s.link.replyPath = none ∧ s.link.reports = .billsWaiting 0 :: List.replicate n (.billsWaiting 0)
          ∧ s.inputWait = 3 :: [] ∧ (s.line 3).waitingRecord = some ⟨.complete, false, [], [65#7]⟩
          ∧ (s.line 3).holder = .session 4 := by decide +kernel

theorem met_GoodFrameRestoresUp :
    (let x := { session with state := .stalled }
     let s : State := { having x with link := { host := .down, downRemaining := some 600, secondsDown := 7 } }
     frameOf (.restart []) = some (0x02#8, []) ∧ s.link.heldOrder = none ∧ s.link.assembler = .hunting ∧ s.link.replyPath = none
       ∧ s.link.host = .down
       ∧ s.sessions.filter (fun y => y.state == .stalled) = [x] ∧ x.boundLine = some 3) := by decide +kernel

/-- Some accounts in order, with one session open on the second. -/
def accounts : State :=
  { having session with accounts := [{ account with number := 1 }, { account with active := 1 }, { account with number := 999999 }] }

theorem met_RestartClearsThePart :
    (having session).ready ∧ ((having session).line 3).state.offHook = true
      ∧ (accounts.findAccount 55120 = some { account with active := 1 } ∧ accounts.ready
          ∧ ∀ x ∈ accounts.sessions, x.account ≠ 999999)
      ∧ (∀ l ∈ [{ state := .guard, destination := .resting 1 }, { state := .guard, destination := .latched },
                ({ state := .resting, window := some 5 } : Line)],
          (on l).ready ∧ ((on l).line 3).state = l.state) := by decide +kernel

/-- A part whose active table opens every class at 300 all day. -/
def opened (clock : Time) (c : Commit := .none) : State :=
  { State.reset with tariff := { clockValid := true, clock := clock, activePresent := true, active := everyDay (.open 300),
                                 period := some ⟨0, Vector.replicate 4 .closed⟩, commit := c } }

theorem met_SetClockTakesTheTime :
    (opened {}).ready ∧ 6 < (7#8 : Byte).toNat ∧ 1439 < beNat [0x05#8, 0xA0#8] ∧ 59 < (60#8 : Byte).toNat
      ∧ ((6#8 : Byte).toNat ≤ 6 ∧ beNat [0x05#8, 0x9F#8] ≤ 1439 ∧ (59#8 : Byte).toNat ≤ 59)
      ∧ State.reset.tariff.activePresent = false
      ∧ ((opened {} (.at 10079 false)).tariff.commit = .at 10079 false ∧ 10079 ≤ 6 * 1440 + 1439)
      ∧ (opened {}).tariff.activePresent = true ∧ (everyDay (.open 300))[0] = some ⟨127#7, 0, Vector.replicate 4 (.open 300)⟩
      ∧ (127#7).getLsbD 6 = true ∧ (∀ j : Fin 16, j ≠ 0 → (everyDay (.open 300))[j] = none)
      ∧ (∀ st ∈ [SessionState.open, .stalled, .held],
        let x := { session with state := st }
        let w : Period := ⟨0, Vector.replicate 4 (.open 300)⟩
        let s : State := { having x with tariff := {
          clockValid := true, clock := ⟨3, 700, 0⟩, activePresent := true, active := everyDay .closed, period := some w } }
        s.ready ∧ s.tariff.period = some w
          ∧ s.sessions.filter (fun y => y.boundLine == some 3 && y.told w ⟨0, Vector.replicate 4 .closed⟩)
            = if st = .held then [] else [x]) := by decide +kernel

theorem met_SetLimitsAreClamped :
    (State.reset.ready ∧ State.reset.waitQueue = [])
    ∧ (∀ a, (waiting a).ready ∧ (waiting a).waitQueue = [9] ∧ (waiting a).waitsFor 9 77
        ∧ ((waiting a).line 9).holder = .dialogue ⟨.waiting, 0, .paused 50, some 77, some 20⟩
        ∧ (waiting a).link.limits.hostSlots < max 1 (min 32 (2#8 : Byte).toNat)
        ∧ (waiting a).sessions.length < max 1 (min 32 (2#8 : Byte).toNat))
    ∧ (waiting waiter).headPasses 77 waiter
    ∧ (waiting account).headFails 77 slotNotAccepted ∧ (waiting { waiter with lock := .lockedHeld }).headFails 77 slotSuspended
    ∧ (waiting { waiter with balance := 0 }).headFails 77 slotNoFunds
    ∧ (waiting { waiter with active := 2 }).headFails 77 slotLimit := by
  have period : (some ⟨0, Vector.replicate 4 (.open 720)⟩ : Option Period)
      = some ⟨0, Vector.replicate 4 (.open 720)⟩ ∧ (Vector.replicate 4 (Rate.open 720))[(1 : Fin 4)] = .open 720 := by
    decide +kernel
  refine ⟨by decide +kernel, fun a => ⟨⟨rfl, rfl, rfl, rfl⟩, rfl, waiting_waits a, rfl, Nat.lt_add_one 1, Nat.lt_add_one 1⟩,
    waiting_passes, .inl ⟨rfl, by decide +kernel⟩, .inr ⟨_, rfl, .inl ⟨rfl, by decide +kernel⟩⟩,
    .inr ⟨_, rfl, .inr ⟨rfl, .inr ⟨⟨_, _, period.1, period.2⟩, .inl ⟨rfl, rfl, by decide +kernel⟩⟩⟩⟩,
    .inr ⟨_, rfl, .inr ⟨rfl, .inr ⟨⟨_, _, period.1, period.2⟩, .inr ⟨.inl (by decide +kernel), .inl ⟨rfl, by decide +kernel⟩⟩⟩⟩⟩⟩

/-- Three lines that wait, at the host slot limit 1 that an order raises to 2; and orders that do not raise it above slots in use. -/
theorem met_SetLimitsAreClamped_queue :
    (∀ a, (queue a).ready ∧ (queue a).waitQueue = 9 :: 12 :: [15] ∧ (queue a).waitQueue.Nodup ∧ (queue a).waitsFor 9 77
        ∧ ((queue a).line 9).holder = .dialogue ⟨.waiting, 0, .paused 50, some 77, some 20⟩
        ∧ (queue a).link.limits.hostSlots < max 1 (min 32 (2#8 : Byte).toNat)
        ∧ (queue a).sessions.length < max 1 (min 32 (2#8 : Byte).toNat)
        ∧ (queue a).sessions.length + 1 = max 1 (min 32 (2#8 : Byte).toNat)
        ∧ max 1 (min 32 (1#8 : Byte).toNat) ≤ (queue a).link.limits.hostSlots
        ∧ max 1 (min 32 (1#8 : Byte).toNat) ≤ (queue a).sessions.length ∧ (queue a).bandSettled)
    ∧ (queue waiter).headPasses 77 waiter ∧ (queue locked).headFails 77 slotSuspended := by
  refine ⟨fun a => ?_, queue_passes.1, queue_fails⟩
  have ⟨h1, h2, h3, _, h5, _, _, h8, _⟩ := queue_heads a
  exact ⟨h1, h2, h3, h5, h8, Nat.lt_add_one 1, Nat.lt_add_one 1, rfl, Nat.le_refl 1, Nat.le_refl 1, queue_settled a⟩

theorem met_SetReportsAndSetMessage :
    State.reset.ready ∧ ([2#8, 0#8, 0#8, 0#8, 0#8] : List Byte).length = 5 ∧ (∃ x ∈ ([2#8, 0#8, 0#8, 0#8, 0#8] : List Byte), 1 < x.toNat)
      ∧ (13#8 : Byte).toNat < 14 ∧ (List.replicate 64 (127#8 : Byte)).length ≤ 64 ∧ 13 < (14#8 : Byte).toNat
      ∧ 64 < (List.replicate 65 (65#8 : Byte)).length ∧ 127 < (128#8 : Byte).toNat := by decide +kernel

theorem met_SetFaultPolicyReplacesTheEntry :
    State.reset.ready ∧ (∀ k : Fin 5, ∃ kind ∈ [FaultKind.noCarrier, .noSpeed, .noise, .longSpace, .ringStuck], kind.code = k.val)
      ∧ (∀ m : Fin 4, ∃ mode ∈ [PolicyMode.latch, .retry, .report, .ignore], mode.code = m.val)
      ∧ 4 < (5#8 : Byte).toNat ∧ 3 < (4#8 : Byte).toNat := by decide +kernel

theorem met_SetClassReplacesTheRecord :
    State.reset.ready ∧ (3#8 : Byte).toNat < 4 ∧ 3 < (4#8 : Byte).toNat
      ∧ (∀ k : Fin 4, ∃ p ∈ [LockPolicy.off, .report, .timed, .latch], p.code = k.val) := by decide +kernel

/-- Thresholds at the ends of their range, and each way they are refused; 17 slots in use. -/
theorem met_SetLoadStepsSetsTheBand :
    ({ State.reset with sessions := List.replicate 17 session } : State).ready
      ∧ (1 ≤ (1#8 : Byte).toNat ∧ (1#8 : Byte).toNat < (31#8 : Byte).toNat ∧ (31#8 : Byte).toNat < (32#8 : Byte).toNat
          ∧ (32#8 : Byte).toNat ≤ 32)
      ∧ (8#8 : Byte).toNat ≤ (8#8 : Byte).toNat ∧ 32 < (33#8 : Byte).toNat := by decide +kernel

theorem met_LoadAccountInsertsOrReplaces :
    accounts.ready ∧ beNat [0#8, 0#8, 0#8] = 0 ∧ 999999 < beNat [0x0F#8, 0x42#8, 0x40#8]
      ∧ 65520 < beNat [0xFF#8, 0xF1#8] ∧ 3 < (4#8 : Byte).toNat ∧ (3#8 : Byte).toNat < 4 ∧ beNat [0xFF#8, 0xF0#8] ≤ 65520
      ∧ (accounts.findAccount 2 = none ∧ accounts.accounts.length < 2048
          ∧ accounts.accounts = [{ account with number := 1 }] ++ [{ account with active := 1 }, { account with number := 999999 }]
          ∧ (∀ a ∈ [{ account with number := 1 }], a.number < 2)
          ∧ ∀ a ∈ [{ account with active := 1 }, { account with number := 999999 }], 2 < a.number)
      ∧ 2048 ≤ ({ State.reset with accounts := List.replicate 2048 account } : State).accounts.length
      ∧ ({ State.reset with accounts := List.replicate 2048 account } : State).findAccount 1 = none
      ∧ (accounts.findAccount 999999 = some { account with number := 999999 } ∧ account.active = 0
          ∧ ∀ x ∈ accounts.sessions, x.account ≠ 999999)
      ∧ accounts.findAccount 55120 = some { account with active := 1 }
      ∧ ((1#8 : Byte).toNat = account.classNo.val ∧ 1 ≤ max 1 (min 4 (1#8 : Byte).toNat))
      ∧ (2#8 : Byte).toNat ≠ account.classNo.val := by decide +kernel

theorem met_CreditAccountChangesTheBalance :
    accounts.ready ∧ (128 ≤ (0xFF#8 : Byte).toNat ∧ (beNat [0xFF#8, 0#8, 0#8, 1#8] : Int) - 4294967296 = -16777215)
      ∧ (beNat [0xFF#8, 0#8, 0#8, 0#8] : Int) - 4294967296 < -16777215 ∧ (16777215 : Int) < beNat [1#8, 0#8, 0#8, 0#8] ∧ accounts.findAccount 2 = none
      ∧ accounts.findAccount 55120 = some { account with active := 1 }
      ∧ ((0 : Nat) : Int) = max 0 (min 16777215 ((account.balance : Int) + -16777215)) := by decide +kernel

theorem met_UnlockAccountOpensTheAccount :
    accounts.ready ∧ beNat [0#8, 0#8, 1#8] = 1 ∧ beNat [0x0F#8, 0x42#8, 0x3F#8] = 999999 ∧ accounts.findAccount 2 = none
      ∧ accounts.findAccount 999999 = some { account with number := 999999 } := by decide +kernel

theorem met_DropAndQueryAccount :
    (State.reset.ready ∧ State.reset.accounts = []) ∧ (∀ a ∈ accounts.accounts, 1 ≤ a.number)
      ∧ accounts.ready ∧ accounts.findAccount 2 = none
      ∧ accounts.findAccount 55120 = some { account with active := 1 }
      ∧ (accounts.findAccount 1 = some { account with number := 1 }
          ∧ accounts.accounts = [] ++ { account with number := 1 } :: [{ account with active := 1 }, { account with number := 999999 }])
      ∧ (accounts.accounts = [{ account with number := 1 }] ++ [{ account with active := 1 }, { account with number := 999999 }]
          ∧ (∀ x ∈ [{ account with number := 1 }], x.number ≤ 1)
          ∧ (∀ x ∈ [{ account with active := 1 }, { account with number := 999999 }], 1 < x.number))
      ∧ (accounts.accounts = accounts.accounts ++ [] ∧ (∀ x ∈ accounts.accounts, x.number ≤ 999999)) := by decide +kernel

theorem met_StandbyTableIsWritten :
    (State.reset.ready ∧ State.reset.tariff.commit = .none)
      ∧ ((committing .nextMinute).ready ∧ (committing .nextMinute).tariff.commit ≠ .none)
      ∧ ((127#8 : Byte) ≠ 0#8 ∧ (127#8 : Byte).toNat < 128) ∧ 15 < (16#8 : Byte).toNat ∧ (15#8 : Byte).toNat < 16
      ∧ 1439 < beNat [0x05#8, 0xA0#8] ∧ beNat [0x05#8, 0x9F#8] ≤ 1439 ∧ 4095 < beNat [0x10#8, 0#8]
      ∧ (∀ k : Fin 4, (#v[Rate.closed, .open 4094, .open 0, .open 1])[k] =
          readRate ([beNat [0x0F#8, 0xFF#8], beNat [0x0F#8, 0xFE#8], beNat [0#8, 0#8], beNat [0#8, 1#8]].getD k.val 0)) := by
  decide +kernel

theorem met_CommitTariffIsJudged :
    State.reset.ready ∧ State.reset.tariff.clockValid = false
      ∧ ((6#8 : Byte).toNat ≤ 6 ∧ beNat [0x05#8, 0x9F#8] ≤ 1439)
      ∧ (let two : TariffTable := (everyDay (.open 300)).set 15 (some ⟨64#7, 0, Vector.replicate 4 .closed⟩)
         (clockAt 3 0 0).ready ∧ two[0] = some ⟨127#7, 0, Vector.replicate 4 (.open 300)⟩
           ∧ two[15] = some ⟨64#7, 0, Vector.replicate 4 .closed⟩ ∧ (127#7).getLsbD 6 = true ∧ (64#7).getLsbD 6 = true)
      ∧ (∀ i : Fin 16, (clockAt 3 0 0).tariff.standby[i] = none)
      ∧ (∀ day : Fin 7, (127#7).getLsbD day.val = true) := by decide +kernel

theorem met_QueriesOnlyReply :
    (having session).ready ∧ (1#8 : Byte).toNat ≤ 1 ∧ 1 < (2#8 : Byte).toNat ∧ 32 ≤ (32#8 : Byte).toNat
      ∧ (having session).findSession (beNat [0#8, 4#8]) = some session ∧ session.number ≠ 0
      ∧ (session ∈ (having session).sessions ∧ beNat [0#8, 3#8] < session.number
          ∧ ∀ y ∈ (having session).sessions, beNat [0#8, 3#8] < y.number → y = session ∨ session.number < y.number)
      ∧ (∀ y ∈ (having session).sessions, y.number ≤ beNat [0#8, 4#8]) := by decide +kernel

/-- Line 3 in each state. -/
theorem met_LineServiceActions :
    (∀ st ∈ [LineState.outOfService, .idle, .ringing, .answering, .searching, .dropping, .guard, .resting, .latched],
        (on { state := st }).ready ∧ ((on { state := st }).line 3).state = st)
      ∧ ((opened {}).ready ∧ ((opened {}).line 3).state = .outOfService ∧ (opened {}).tariff.clockValid = true
          ∧ (opened {}).tariff.activePresent = true)
      ∧ (((inPhase .entry).line 3).state = .connected ∧ ((inPhase .entry).line 3).holder = .dialogue (talk .entry))
      ∧ ((having session).ready ∧ ((having session).line 3).state = .connected ∧ ((having session).line 3).holder = .session 4
          ∧ (having session).findSession 4 = some session ∧ session.boundLine = some 3 ∧ (having session).waitQueue = [])
      ∧ 32 ≤ (32#8 : Byte).toNat ∧ 2 < (3#8 : Byte).toNat := by decide +kernel

theorem met_SetLineGroups :
    ((on { state := .idle }).ready ∧ ((on { state := .idle }).line 3).state = .idle)
      ∧ ((on call).line 3).state = .connected
      ∧ (∀ k, ((on call).line 3).holder ≠ .session k)
      ∧ ((having session).ready ∧ ((having session).line 3).holder = .session 4)
      ∧ ((32#8 : Byte).toNat < 33 ∧ 126 < (127#8 : Byte).toNat ∧ 33 ≤ (33#8 : Byte).toNat ∧ (126#8 : Byte).toNat ≤ 126) := by
  refine ⟨by decide +kernel, by decide +kernel, not_session (by decide +kernel), by decide +kernel, by decide +kernel⟩

theorem met_DropLineEndsTheCall :
    (∀ st ∈ [LineState.answering, .searching, .outOfService, .idle, .ringing, .dropping, .guard, .resting, .latched],
        (on { state := st }).ready ∧ ((on { state := st }).line 3).state = st)
      ∧ (((inPhase .entry).line 3).state = .connected ∧ ((inPhase .entry).line 3).holder = .dialogue (talk .entry))
      ∧ (let s := having session { call with output := List.replicate 247 ⟨65#7, none⟩ }
         s.ready ∧ (s.line 3).state = .connected ∧ (s.line 3).holder = .session 4 ∧ s.findSession 4 = some session
           ∧ session.boundLine = some 3 ∧ s.waitQueue = []
           ∧ (s.line 3).output.length + ((s.messages[slotGoodbye]).length + 2) = 256) := by decide +kernel

theorem met_SendTextJoinsTheQueue :
    (let s := having session { call with output := List.replicate 132 ⟨65#7, none⟩ }
     s.ready ∧ beNat [0#8, 4#8] ≠ 0 ∧ s.findSession 5 = none ∧ s.findSession 4 = some session ∧ session.state ≠ .held
       ∧ session.boundLine = some 3 ∧ (s.line 3).output.length + (List.replicate 60 (65#8 : Byte)).length = 192
       ∧ (s.line 3).output.length + (List.replicate 61 (65#8 : Byte)).length = 193)
    ∧ (let s := having session { call with output := List.replicate 193 ⟨65#7, none⟩ }
       s.ready ∧ s.findSession 4 = some session ∧ (s.line 3).output.length + ([] : List Byte).length = 193)
    ∧ held.ready ∧ held.sessions.map (·.state) = [.held] ∧ 192 < (List.replicate 193 (65#8 : Byte)).length := by decide +kernel

theorem met_TakeBillRemovesTheHead :
    (State.reset.ready ∧ State.reset.bills = [])
      ∧ (({ State.reset with bills := [bill] } : State).ready ∧ ({ State.reset with bills := [bill] } : State).bills = bill :: []) := by
  decide +kernel

/-- A session that a second mark will charge. -/
def charging : State := { having session with pending := [.secondMark] }

theorem met_StepKeepsTheQueuesBounded :
    charging.reportsFit ∧ charging.outputsFit ∧ charging.heldSound ∧ charging.bandFits ∧ charging.bandSettled
      ∧ ∃ t, step charging = .next t := by
  simp only [State.reportsFit, State.outputsFit, State.heldSound, State.bandFits]
  exact ⟨by decide +kernel, by decide +kernel, by decide +kernel, by decide +kernel, having_settled session call, _, rfl⟩

theorem met_StepKeepsTheReservations : charging.billsFit ∧ charging.slotsFit ∧ ∃ t, step charging = .next t := by
  simp only [State.billsFit, State.slotsFit]
  exact ⟨by decide +kernel, by decide +kernel, _, rfl⟩

theorem met_StepKeepsTheMoney : charging.moneyFits ∧ charging.metersSound ∧ ∃ t, step charging = .next t := by
  simp only [State.moneyFits, State.metersSound, ClassRecord.sound, Meter.sound]
  exact ⟨by decide +kernel, by decide +kernel, _, rfl⟩

theorem met_StepKeepsTheHostState : charging.hostSound ∧ ∃ t, step charging = .next t := by
  simp only [State.hostSound]
  exact ⟨by decide +kernel, _, rfl⟩

theorem met_StepKeepsWaitersOnlyWhenFull :
    (let s := { charging with waitQueue := [3], link := { limits := { hostSlots := 1 } } }
     s.waitersSound ∧ s.waitQueue ≠ [] ∧ ∃ t, step s = .next t) := by
  simp only [State.waitersSound]
  exact ⟨by decide +kernel, by decide +kernel, _, rfl⟩

/-- A session on line 3, a HELD one, line 9 that waits, and their accounts. -/
def bound : State :=
  { waiting waiter with
    sessions := [session, { session with number := 9, account := 77, state := .held, boundLine := none, hold := some 5 }],
    accounts := [{ waiter with active := 1 }, { account with active := 1 }], pending := [.secondMark] }

theorem met_StepKeepsTheBindings :
    bound.linesBound ∧ bound.numbersSound ∧ bound.accountsSound ∧ bound.slotsFit ∧ bound.waitQueue = [9]
      ∧ ∃ t, step bound = .next t := by
  have other : ∀ p : Port, p ≠ 3 → p ≠ 9 → (bound.line p).holder = .none := by decide +kernel
  have h3 : (bound.line 3).holder = .session 4 ∧ (bound.line 3).state = .connected := by decide +kernel
  have h9 : (bound.line 9).holder = .dialogue ⟨.waiting, 0, .paused 50, some 77, some 20⟩
      ∧ (bound.line 9).state = .connected := by decide +kernel
  refine ⟨⟨fun p => ?_, ?_, ?_, (by decide : ([9] : List Port).Nodup), fun p d hp _ => ?_⟩, ?_, ?_, ?_, rfl, _, rfl⟩
  · by_cases e3 : p = 3
    · subst e3; rw [h3.1, h3.2]
      exact ⟨fun n h => by cases h; exact ⟨rfl, session, .head _, rfl, rfl⟩, fun d h => by cases h⟩
    · by_cases e9 : p = 9
      · subst e9; rw [h9.1, h9.2]
        exact ⟨fun n h => (by cases h), fun d h => by cases h; exact .inl ⟨rfl, by decide⟩⟩
      · rw [other p e3 e9]; exact ⟨fun n h => (by cases h), fun d h => by cases h⟩
  · decide +kernel
  · intro p hp; cases List.mem_singleton.mp hp; exact ⟨_, h9.1, rfl⟩
  · by_cases e9 : p = 9
    · exact e9 ▸ .head _
    · by_cases e3 : p = 3
      · rw [e3, h3.1] at hp; cases hp
      · rw [other p e3 e9] at hp; cases hp
  all_goals simp only [State.numbersSound, State.accountsSound, State.slotsFit]; decide +kernel

theorem met_OnlyTheTimeoutTakesTheHostDown :
    (let s : State := { charging with link := { limits := { linkTimeout := 1 }, timeoutRunning := true } }
     s.link.host = .up ∧ (after .linkTimeoutExpiry s).link.host = .down)
    ∧ (charging.tariff.clockValid = true ∧ (after .powerUp charging).tariff.clockValid = false) := by decide +kernel

/-- A command that adds a bill record, and a reply's sending whose held order is no TAKE BILL. -/
theorem met_BillsLeaveByTakeBillAlone :
    ((after (.endSession [0#8, 4#8]) charging).bills.length = 1 ∧ charging.link.assembler = .hunting)
      ∧ ∀ f, (busy (some ⟨0x1B#8, [0#8], 0xE4#8⟩)).link.heldOrder = some f → f.kind ≠ 0x30#8 := by
  refine ⟨by decide +kernel, ?_⟩
  rintro f h; cases h; decide

/-- An admission. -/
theorem met_AdmissionsKeepTheHostSlotLimit :
    ((after (.characterReceived 3 13#7 true) typed).sessions.map (fun x => (x.number, x.account, x.meter.rate, x.meter.multiplier)))
      = [(1, 55120, 720, 16)] := by decide +kernel

end Sys2Proof.Tests
end

section
namespace Sys2Proof.Machine.InOut

/-! ## The bounds, and what they read of a state -/

/-- The bounds of the queues and of the band; the band is settled where `w` says that it was. -/
structure Bounded (w : Prop) (s : State) : Prop where
  reports : s.reportsFit
  outputs : s.outputsFit
  held : s.heldSound
  band : s.bandFits
  settled : w → s.bandSettled

/-- What the bounds read of a state. -/
def view (s : State) : Vector Line 32 × List Report × Option Frame × Option Reply × Nat × LoadSteps × Nat :=
  (s.lines, s.link.reports, s.link.heldOrder, s.link.replyPath, s.tariff.band, s.tariff.steps, s.sessions.length)

variable {w : Prop} {s t : State}

/-- States that agree in what the bounds read are bounded alike. -/
theorem Bounded.same (h : Bounded w s) (e : view t = view s) : Bounded w t := by
  simp only [view, Prod.mk.injEq] at e
  obtain ⟨hl, hr, hh, hp, hb, hs, hn⟩ := e
  obtain ⟨reports, outputs, held, band, settled⟩ := h
  constructor <;> simpa only [State.reportsFit, State.outputsFit, State.heldSound, State.bandFits, State.bandSettled,
    State.line, hl, hr, hh, hp, hb, hs, hn] using by assumption

/-! Updates that the bounds do not read. -/

theorem Bounded.setWaitQueue (h : Bounded w s) (q : List Port) : Bounded w { s with waitQueue := q } := h.same rfl

theorem Bounded.setInputWait (h : Bounded w s) (q : List Port) : Bounded w { s with inputWait := q } := h.same rfl

theorem Bounded.setBills (h : Bounded w s) (bs : List Bill) : Bounded w { s with bills := bs } := h.same rfl

theorem Bounded.setAccounts (h : Bounded w s) (xs : List Account) : Bounded w { s with accounts := xs } := h.same rfl

theorem Bounded.setTariff (h : Bounded w s) (x : Tariff) (hb : x.band = s.tariff.band) (hs : x.steps = s.tariff.steps) :
    Bounded w { s with tariff := x } := h.same (by simp [view, hb, hs])

theorem Bounded.setLink (h : Bounded w s) (k : Link) (hr : k.reports = s.link.reports)
    (hh : k.heldOrder = s.link.heldOrder) (hp : k.replyPath = s.link.replyPath) : Bounded w { s with link := k } :=
  h.same (by simp [view, hr, hh, hp])

theorem Bounded.nextDraw (h : Bounded w s) : Bounded w s.nextDraw := h.same rfl

/-- A change of session records that leaves their number. -/
theorem Bounded.mapSessions (h : Bounded w s) (f : Session → Session) :
    Bounded w { s with sessions := s.sessions.map f } := h.same (by simp [view])

/-- The thresholds of a settled band strictly increase. -/
theorem Bounded.thresholds (h : Bounded w s) (v : w) :
    s.tariff.steps.t1 < s.tariff.steps.t2 ∧ s.tariff.steps.t2 < s.tariff.steps.t3 :=
  let ⟨h12, h23, _⟩ := h.settled v
  ⟨h12, h23⟩

/-! ## Lines and reports -/

theorem Bounded.setLine (h : Bounded w s) (p : Port) (l : Line) (hl : l.output.length ≤ 256) :
    Bounded w (s.setLine p l) := by
  obtain ⟨hr, ho, hh, hb, hs⟩ := h
  refine ⟨hr, fun q => ?_, hh, hb, hs⟩
  by_cases e : q = p
  · subst e; simpa using hl
  · rw [State.line_setLine_ne s p q l e]; exact ho q

theorem Bounded.output_le (h : Bounded w s) (p : Port) : (s.line p).output.length ≤ 256 := h.outputs p

/-- A change of a line that does not lengthen its output queue. -/
theorem Bounded.mapLine (h : Bounded w s) (p : Port) (f : Line → Line)
    (hf : ∀ l, (f l).output.length ≤ l.output.length) : Bounded w (s.mapLine p f) :=
  h.setLine p _ ((hf _).trans (h.output_le p))

/-- A change of every line that does not lengthen its output queue. -/
theorem Bounded.mapLines (h : Bounded w s) (f : Line → Line) (hf : ∀ l, (f l).output.length ≤ l.output.length) :
    Bounded w { s with lines := s.lines.map f } := by
  obtain ⟨hr, ho, hh, hb, hs⟩ := h
  refine ⟨hr, fun q => ?_, hh, hb, hs⟩
  have e : State.line { s with lines := s.lines.map f } q = f (s.line q) := by simp [State.line]
  rw [e]
  exact (hf _).trans (ho q)

theorem Bounded.queueReport (h : Bounded w s) (r : Report) : Bounded w (s.queueReport r) := by
  obtain ⟨hr, ho, hh, hb, hs⟩ := h
  rw [State.queueReport_eq]
  refine ⟨s.link.reported_fits r hr, ho, ?_, hb, hs⟩
  simpa [State.heldSound] using hh

theorem Bounded.raiseEvent (h : Bounded w s) (p : Port) (e : LineEvent) : Bounded w (s.raiseEvent p e) := by
  have hl := h.mapLine p (fun l => { l with lastEvent := some e }) fun _ => le_rfl
  unfold State.raiseEvent
  dsimp only
  split
  · exact hl.queueReport _
  · exact hl

/-! ## Sessions and accounts -/

theorem Bounded.mapSession (h : Bounded w s) (n : Nat) (f : Session → Session) : Bounded w (s.mapSession n f) :=
  h.same (by simp [view])

theorem Bounded.mapAccount (h : Bounded w s) (a : Nat) (f : Account → Account) : Bounded w (s.mapAccount a f) :=
  h.same (by simp [view])

/-! ## The output queue -/

theorem Bounded.drainedTest (h : Bounded w s) (p : Port) : Bounded w (s.drainedTest p) := by
  unfold State.drainedTest
  dsimp only
  split
  · split
    · refine Bounded.queueReport (h.setLine p _ ?_) _
      exact h.output_le p
    · exact h
  · exact h

theorem Bounded.discardOutput (h : Bounded w s) (p : Port) : Bounded w (s.discardOutput p) := by
  have hl := h.mapLine p (fun l => { l with output := [], unreported := [], fill := 0 }) fun _ => Nat.zero_le _
  unfold State.discardOutput
  dsimp only
  split
  · exact hl
  · exact hl.drainedTest p

theorem Bounded.appendEcho (h : Bounded w s) (p : Port) (cs : List Code) : Bounded w (s.appendEcho p cs) := by
  unfold State.appendEcho
  dsimp only
  split
  · next fits => exact h.setLine p _ (by simpa using fits)
  · exact h

theorem Bounded.sendBel (h : Bounded w s) (p : Port) : Bounded w (s.sendBel p) := h.appendEcho p _

theorem Bounded.queueMessage (h : Bounded w s) (p : Port) (m : Slot) : Bounded w (s.queueMessage p m) := by
  unfold State.queueMessage
  dsimp only
  split
  · next fits => exact h.setLine p _ (by simpa using fits)
  · exact h

theorem Bounded.queueMessageTo (h : Bounded w s) (o : Option Port) (m : Slot) : Bounded w (s.queueMessageTo o m) := by
  cases o with
  | none => exact h
  | some p => exact h.queueMessage p m

theorem Bounded.queueMessages (h : Bounded w s) (xs : List Session) (m : Slot) :
    Bounded w (xs.foldl (fun q x => q.queueMessageTo x.boundLine m) s) := by
  induction xs generalizing s with
  | nil => exact h
  | cons x xs ih => exact ih (h.queueMessageTo _ m)

/-! ## Completed records -/

/-- An INPUT report joins the queue where 16 entries are free. -/
theorem Bounded.queueInput (h : Bounded w s) (r : Report) (room : s.link.reports.length + 16 ≤ 64) :
    Bounded w { s with link := { s.link with reports := s.link.reports ++ [r] } } := by
  obtain ⟨_, ho, hh, hb, hs⟩ := h
  refine ⟨?_, ho, hh, hb, hs⟩
  simp only [State.reportsFit, List.length_append, List.length_singleton]
  omega

theorem Bounded.offerRecord (h : Bounded w s) (p : Port) (n : Nat) (r : InputRecord) :
    Bounded w (s.offerRecord p n r) := by
  unfold State.offerRecord
  split
  · next room => exact h.queueInput _ room.2
  · exact (h.mapLine p (fun l => { l with waitingRecord := some r }) fun _ => le_rfl).setInputWait _

theorem clearWaiting_output (l : Line) : l.clearWaiting.output.length ≤ l.output.length := by simp

theorem Bounded.releaseInput (h : Bounded w s) (ps : List Port) : Bounded w (s.releaseInput ps) := by
  induction ps generalizing s with
  | nil => exact h
  | cons p rest ih =>
    unfold State.releaseInput
    split
    · next room =>
      have h1 : Bounded w { (s.setLine p (s.line p).clearWaiting) with inputWait := rest } :=
        (h.mapLine p Line.clearWaiting clearWaiting_output).setInputWait _
      dsimp only
      split
      · exact ih (h1.queueInput _ room)
      · exact ih h1
    · exact h

theorem Bounded.discardWaiting (h : Bounded w s) (p : Port) : Bounded w (s.discardWaiting p) := by
  unfold State.discardWaiting
  split
  · exact h
  · exact (h.mapLine p Line.clearWaiting clearWaiting_output).setInputWait _

theorem Bounded.unbindLine (h : Bounded w s) (p : Port) : Bounded w (s.unbindLine p) :=
  (h.mapLine p (fun l => { l with holder := .none, partialRecord := {}, drainWanted := false })
    fun _ => le_rfl).discardWaiting p

/-! ## Line states -/

theorem Bounded.goOnHook (h : Bounded w s) (p : Port) (d : Destination) : Bounded w (s.goOnHook p d) :=
  ((h.mapLine p (fun l => { l.releaseCall with state := .guard, window := some Config.guardTime, destination := d })
    fun _ => Nat.zero_le _).setInputWait (s.inputWait.filter (· ≠ p))).setWaitQueue _

theorem Bounded.dropWithoutMessage (h : Bounded w s) (p : Port) (d : Destination) :
    Bounded w (s.dropWithoutMessage p d) := by
  unfold State.dropWithoutMessage
  split
  · exact (h.goOnHook p d).raiseEvent p _
  · exact h

theorem Bounded.dropWithMessage (h : Bounded w s) (p : Port) : Bounded w (s.dropWithMessage p) := by
  unfold State.dropWithMessage
  split
  · exact h.dropWithoutMessage p _
  · exact h.dropWithoutMessage p _
  · exact h.mapLine p _ fun _ => le_rfl
  · exact h

theorem Bounded.endDialogue (h : Bounded w s) (p : Port) : Bounded w (s.endDialogue p) :=
  (h.mapLine p (fun l => { l with holder := .none }) fun _ => le_rfl).setWaitQueue _

theorem Bounded.farewell (h : Bounded w s) (p : Port) : Bounded w (s.farewell p) := by
  unfold State.farewell
  dsimp only
  refine Bounded.dropWithMessage (Bounded.setWaitQueue ?_ _) p
  refine h.mapLine p _ fun l => ?_
  split <;> exact le_rfl

/-! ## The load band -/

theorem Bounded.setBand (h : Bounded False s) (b : Nat) (q : Bool) (hb : b ≤ 3) : Bounded False (s.setBand b q) := by
  have h1 : Bounded False { s with tariff := { s.tariff with band := b } } :=
    ⟨h.reports, h.outputs, h.held, hb, False.elim⟩
  unfold State.setBand
  cases q with
  | true => exact h1
  | false => exact h1.queueReport _

theorem Bounded.raiseBand (h : Bounded False s) (k : Nat) (q : Bool) : Bounded False (State.raiseBand k s q) := by
  induction k generalizing s with
  | zero => exact h
  | succ k ih =>
    by_cases r : s.rises
    · rw [State.raiseBand_moves _ _ _ r]; exact ih (h.setBand _ q r.1)
    · rw [State.raiseBand_stays _ _ _ r]; exact h

theorem Bounded.lowerBand (h : Bounded False s) (k : Nat) (q : Bool) : Bounded False (State.lowerBand k s q) := by
  induction k generalizing s with
  | zero => exact h
  | succ k ih =>
    by_cases r : s.falls
    · rw [State.lowerBand_moves _ _ _ r]
      have fits : s.tariff.band ≤ 3 := h.band
      exact ih (h.setBand _ q (by omega))
    · rw [State.lowerBand_stays _ _ _ r]; exact h

/-- An evaluation settles the band, whatever the slots in use were before (R139). -/
theorem Bounded.reband (h : Bounded False s) (q : Bool)
    (steps : w → s.tariff.steps.t1 < s.tariff.steps.t2 ∧ s.tariff.steps.t2 < s.tariff.steps.t3) :
    Bounded w (s.reband q) := by
  obtain ⟨hr, ho, hh, hb, _⟩ : Bounded False (s.reband q) := (h.raiseBand 3 q).lowerBand 3 q
  exact ⟨hr, ho, hh, hb, fun v => s.reband_settled q h.band (steps v).1 (steps v).2⟩

/-! ## The Meter Unit -/

theorem Bounded.bookUnits (h : Bounded w s) (n k : Nat) : Bounded w (s.bookUnits n k) := by
  unfold State.bookUnits
  split
  · exact h
  · exact (h.mapSession n _).mapAccount _ _

theorem Bounded.lowFundsTest (h : Bounded w s) (n : Nat) : Bounded w (s.lowFundsTest n) := by
  unfold State.lowFundsTest
  split
  · exact h
  · dsimp only
    split
    · exact ((h.queueMessageTo _ _).queueReport _).mapSession n _
    · exact h

theorem Bounded.graceStart (h : Bounded w s) (n : Nat) : Bounded w (s.graceStart n).1 := by
  unfold State.graceStart
  repeat' split
  · exact h
  · exact h
  · exact h.mapSession n _
  · exact h

theorem Bounded.lowerCountdowns (h : Bounded w s) (n : Nat) (a b : Bool) : Bounded w (s.lowerCountdowns n a b).1 := by
  unfold State.lowerCountdowns
  split
  · exact h
  · exact h.mapSession n _

theorem Bounded.chargeSecond (h : Bounded w s) (n : Nat) (ran : Bool) : Bounded w (s.chargeSecond n ran).1 := by
  unfold State.chargeSecond
  split
  · exact h
  · next x _ =>
    have hg := (((h.mapSession n (fun y => { y with meter := (x.meter.accumulate x.snapshot.record.cap).2 })).bookUnits n
      (x.meter.accumulate x.snapshot.record.cap).1).lowFundsTest n).graceStart n
    dsimp only
    split
    · next e => rw [e] at hg; exact hg
    · next e => rw [e] at hg; exact hg.lowerCountdowns n _ _

theorem Bounded.relatch (h : Bounded w s) (n : Nat) (v : Latch) : Bounded w (s.relatch n v) := by
  cases v with
  | none => exact h
  | rate => exact h.mapSession n _
  | multiplier => exact h.mapSession n _
  | both => exact (h.mapSession n _).mapSession n _

theorem Bounded.relatches (h : Bounded w s) (ns : List Nat) (v : Nat → Latch) :
    Bounded w (ns.foldl (fun q n => q.relatch n (v n)) s) := by
  induction ns generalizing s with
  | nil => exact h
  | cons n ns ih => exact ih (h.relatch n _)

theorem Bounded.balanceChanged (h : Bounded w s) (a b c : Nat) : Bounded w (s.balanceChanged a b c) := by
  unfold State.balanceChanged
  split
  · exact h.mapSessions _
  · exact h

theorem Bounded.finalize (h : Bounded w s) (n : Nat) : Bounded w (s.finalize n) := by
  have hr : Bounded w (s.roundSession n) := by
    unfold State.roundSession
    repeat' split
    · exact h
    · exact (h.mapSession n _).bookUnits n _
    · exact h
  unfold State.finalize State.applyMinimum
  repeat' split
  · exact hr
  · exact (hr.mapSession n _).bookUnits n _
  · exact hr

/-! ## Admission, the wait queue and close -/

/-- A change of the session table leaves everything but the settled band. -/
theorem Bounded.setSessions (h : Bounded w s) (xs : List Session) (next : Nat) :
    Bounded False { s with sessions := xs, nextNumber := next } :=
  ⟨h.reports, h.outputs, h.held, h.band, False.elim⟩

/-- A record leaves the session table, and the band is evaluated anew. -/
theorem Bounded.eraseSession (h : Bounded w s) (is : Session → Bool) (q : Bool) :
    Bounded w (State.reband { s with sessions := s.sessions.eraseP is } q) :=
  Bounded.reband (h.setSessions _ _) q (by simpa using h.thresholds)

theorem Bounded.admitLine (h : Bounded w s) (p : Port) (a : Account) : Bounded w (s.admitLine p a) := by
  unfold State.admitLine
  dsimp only
  refine Bounded.lowFundsTest ?_ _
  refine Bounded.queueReport ?_ _
  refine Bounded.setWaitQueue ?_ _
  refine Bounded.mapLine ?_ p _ fun _ => le_rfl
  refine Bounded.mapSession ?_ _ _
  refine Bounded.reband ?_ false ?_
  · exact (h.setSessions _ _).mapAccount _ _
  · simpa using h.thresholds

theorem Bounded.judgeHead (h : Bounded w s) (p : Port) : Bounded w (s.judgeHead p) := by
  unfold State.judgeHead
  repeat' split
  · exact (h.endDialogue p).dropWithoutMessage p _
  · exact (h.queueMessage p _).farewell p
  · exact (h.queueMessage p _).farewell p
  · exact h.admitLine p _

theorem Bounded.evaluateQueue (h : Bounded w s) (k : Nat) : Bounded w (State.evaluateQueue k s) := by
  induction k generalizing s with
  | zero => exact h
  | succ k ih =>
    unfold State.evaluateQueue
    repeat' split
    · exact h
    · exact ih ((h.setWaitQueue _).judgeHead _)
    · exact h

theorem Bounded.evaluate (h : Bounded w s) : Bounded w s.evaluate := h.evaluateQueue _

theorem Bounded.addBill (h : Bounded w s) (b : Bill) (q : Bool) : Bounded w (s.addBill b q) := by
  unfold State.addBill
  dsimp only
  split
  · exact (h.setBills _).queueReport _
  · exact h.setBills _

theorem Bounded.freeSession (h : Bounded w s) (n : Nat) (q : Bool) : Bounded w (s.freeSession n q) := by
  unfold State.freeSession
  dsimp only
  split
  · exact (h.unbindLine _).eraseSession _ q
  · exact h.eraseSession _ q

theorem Bounded.closeSession (h : Bounded w s) (n : Nat) (c : Cause) (q : Bool) : Bounded w (s.closeSession n c q) := by
  have hf := h.finalize n
  unfold State.closeSession
  dsimp only
  split
  · exact h
  · next x _ =>
    have h3 := ((hf.addBill ((s.finalize n).billOf x c) q).mapAccount x.account
      (fun a => { a with active := a.active - 1 })).freeSession n q
    repeat' split
    · exact h3
    · exact h3.evaluate.queueReport _
    · exact h3.queueReport _

theorem Bounded.closeAction (h : Bounded w s) (o : Option Port) (c : Cause) : Bounded w (s.closeAction o c) := by
  unfold State.closeAction
  split
  · exact h
  · split
    · exact (h.queueMessage _ _).dropWithMessage _
    · exact (h.queueMessage _ _).dropWithMessage _
    · exact (h.queueMessage _ _).dropWithMessage _
    · exact ((h.queueMessage _ _).queueMessage _ _).dropWithMessage _
    · exact h.dropWithoutMessage _ _
    all_goals exact h

theorem Bounded.closeAndAct (h : Bounded w s) (n : Nat) (c : Cause) : Bounded w (s.closeAndAct n c) :=
  (h.closeSession n c false).closeAction _ c

theorem Bounded.loseLine (h : Bounded w s) (n : Nat) (p : Port) (r : HeldReason) : Bounded w (s.loseLine n p r) := by
  unfold State.loseLine
  split
  · exact h
  · dsimp only
    split
    · exact h.closeSession n _ false
    · refine Bounded.queueReport ?_ _
      refine Bounded.mapSession ?_ n _
      exact (h.unbindLine p).mapLine p _ fun _ => Nat.zero_le _

theorem Bounded.tellHolder (h : Bounded w s) (p : Port) (r : HeldReason) : Bounded w (s.tellHolder p r) := by
  unfold State.tellHolder
  split
  · exact h.loseLine _ p r
  · exact h.endDialogue p
  · exact h

/-! ## Faults -/

theorem Bounded.judgeFault (h : Bounded w s) (p : Port) (k : FaultKind) : Bounded w (s.judgeFault p k).1 := by
  have hl := h.mapLine p (fun l => { l with retryCount := (s.policies.entry k).retryAfter (s.line p).retryCount })
    fun _ => le_rfl
  unfold State.judgeFault
  dsimp only
  split
  · exact hl
  · exact hl.raiseEvent p _

theorem Bounded.takeFault (h : Bounded w s) (p : Port) (k : FaultKind) : Bounded w (s.takeFault p k) := by
  unfold State.takeFault
  dsimp only
  split
  · exact ((h.judgeFault p k).tellHolder p _).dropWithoutMessage p _
  · exact h.judgeFault p k

theorem Bounded.takeRingStuck (h : Bounded w s) (p : Port) : Bounded w (s.takeRingStuck p) := by
  have hj := (h.mapLine p (fun l => { l with ringCount := 0 }) fun _ => le_rfl).judgeFault p .ringStuck
  unfold State.takeRingStuck
  dsimp only
  split <;> exact hj.mapLine p _ fun _ => le_rfl

theorem Bounded.countError (h : Bounded w s) (p : Port) : Bounded w (s.countError p).1 := by
  unfold State.countError
  dsimp only
  split
  · exact (h.mapLine p (fun l => { l with noiseCount := 0 }) fun _ => le_rfl).takeFault p _
  · exact h.mapLine p (fun l => { l with noiseCount := (s.line p).noiseCount + 1 }) fun _ => le_rfl

/-! ## Sign-on -/

theorem Bounded.applyLockPolicy (h : Bounded w s) (p : Port) (a : Account) (k : Nat) :
    Bounded w (s.applyLockPolicy p a k) := by
  unfold State.applyLockPolicy
  dsimp only
  split
  · exact h.mapAccount _ _
  · exact (h.mapAccount _ _).queueReport _
  · exact (h.mapAccount _ _).queueReport _
  · exact (h.mapAccount _ _).queueReport _

theorem Bounded.countFailure (h : Bounded w s) (p : Port) (a : Account) : Bounded w (s.countFailure p a) := by
  unfold State.countFailure
  dsimp only
  split
  · exact h.applyLockPolicy p a _
  · exact h.mapAccount _ _

theorem Bounded.refuseSignOn (h : Bounded w s) (p : Port) (d : Dialogue) (m : Slot) :
    Bounded w (s.refuseSignOn p d m) := by
  have h1 := (h.mapLine p (fun l => { l with holder := .dialogue { d with attempts := restAt 5 (d.attempts + 1) } })
    fun _ => le_rfl).queueMessage p m
  unfold State.refuseSignOn
  dsimp only
  split
  · exact h1.queueMessage p _
  · exact (h1.queueMessage p _).farewell p

theorem Bounded.reattach (h : Bounded w s) (p : Port) (x : Session) : Bounded w (s.reattach p x) := by
  unfold State.reattach
  dsimp only
  refine Bounded.lowFundsTest ?_ _
  refine Bounded.queueReport ?_ _
  refine Bounded.queueMessage ?_ p _
  refine Bounded.mapLine ?_ p _ fun _ => le_rfl
  exact h.mapSession _ _

theorem Bounded.enterQueue (h : Bounded w s) (p : Port) (d : Dialogue) (a : Nat) : Bounded w (s.enterQueue p d a) := by
  unfold State.enterQueue
  refine Bounded.queueMessage ?_ p _
  refine Bounded.setWaitQueue ?_ _
  exact h.mapLine p _ fun _ => le_rfl

theorem Bounded.capacityChecks (h : Bounded w s) (p : Port) (d : Dialogue) (a : Account) :
    Bounded w (s.capacityChecks p d a) := by
  unfold State.capacityChecks
  repeat' split
  · exact h.refuseSignOn p d _
  · exact h.refuseSignOn p d _
  · exact h.admitLine p a
  · exact h.enterQueue p d _
  · exact (h.queueMessage p _).farewell p

theorem Bounded.accountChecks (h : Bounded w s) (p : Port) (d : Dialogue) (a : Account) :
    Bounded w (s.accountChecks p d a) := by
  unfold State.accountChecks
  repeat' split
  · exact h.refuseSignOn p d _
  · exact h.refuseSignOn p d _
  · exact h.reattach p _
  · exact h.capacityChecks p d a

theorem Bounded.judgeRecord (h : Bounded w s) (p : Port) (d : Dialogue) (text : List Code) (marks : List Nat)
    (st : RecordStatus) : Bounded w (s.judgeRecord p d text marks st) := by
  unfold State.judgeRecord
  repeat' split
  · exact (h.endDialogue p).dropWithoutMessage p _
  · exact h.refuseSignOn p d _
  · exact h.refuseSignOn p d _
  · exact (h.mapAccount _ _).accountChecks p d _
  · exact h.refuseSignOn p d _
  · exact h.refuseSignOn p d _
  · exact (h.countFailure p _).refuseSignOn p d _
  · exact h.refuseSignOn p d _
  · exact h.refuseSignOn p d _

/-! ## The Tariff Unit -/

theorem Bounded.rateSignal (h : Bounded w s) (c : Fin 4) (a b : Option Rate) : Bounded w (s.rateSignal c a b) := by
  unfold State.rateSignal
  split
  · exact (h.mapSessions _).queueMessages _ _
  · exact h.mapSessions _
  · exact h

theorem Bounded.rateSignals (h : Bounded w s) (a b : Option Period) : Bounded w (s.rateSignals a b) :=
  (((h.rateSignal _ _ _).rateSignal _ _ _).rateSignal _ _ _).rateSignal _ _ _

theorem Bounded.selectPeriod (h : Bounded w s) : Bounded w s.selectPeriod := by
  unfold State.selectPeriod
  repeat' split
  · exact h
  · refine Bounded.rateSignals ?_ _ _
    exact h.setTariff _ rfl rfl
  · exact h

theorem Bounded.switchTariff (h : Bounded w s) : Bounded w s.switchTariff := by
  have hp := (h.setTariff { s.tariff with active := s.tariff.standby, activePresent := true, commit := .none } rfl
    rfl).selectPeriod
  unfold State.switchTariff
  dsimp only
  split
  · exact hp.queueReport _
  · exact hp

theorem Bounded.minuteMark (h : Bounded w s) (wraps : Bool) : Bounded w (s.minuteMark wraps) := by
  have h1 : Bounded w (if wraps then { s with tariff := { s.tariff with commit := s.tariff.commit.clearWrap } } else s) := by
    split
    · exact h.setTariff _ rfl rfl
    · exact h
  unfold State.minuteMark
  dsimp only
  generalize (if wraps = true then _ else s) = q at h1 ⊢
  refine Bounded.selectPeriod ?_
  split
  · exact h1.switchTariff
  · exact h1

/-! ## The Link Controller -/

/-- A reply on the reply path keeps a held order behind it (R167). -/
theorem Bounded.setReply (h : Bounded w s) (r : Reply) :
    Bounded w { s with link := { s.link with replyPath := some r } } :=
  ⟨h.reports, h.outputs, fun _ => Option.some_ne_none r, h.band, h.settled⟩

theorem Bounded.placeReply (h : Bounded w s) (k : Byte) (c : ReplyCode) (d : List Byte) :
    Bounded w (s.placeReply k c d) := h.setReply _

theorem Bounded.refuse (h : Bounded w s) (k : Byte) (c : ReplyCode) : Bounded w (s.refuse k c) := h.placeReply k c []

theorem Bounded.restartTimeout (h : Bounded w s) : Bounded w s.restartTimeout := h.setLink _ rfl rfl rfl

theorem Bounded.emptyQueue (h : Bounded w s) (ps : List Port) : Bounded w (s.emptyQueue ps) := by
  induction ps generalizing s with
  | nil => exact h
  | cons p rest ih => exact ih ((h.queueMessage p _).farewell p)

theorem Bounded.stallSessions (h : Bounded w s) : Bounded w s.stallSessions := (h.mapSessions _).queueMessages _ _

theorem Bounded.resumeSessions (h : Bounded w s) : Bounded w s.resumeSessions := (h.mapSessions _).queueMessages _ _

theorem Bounded.hostDown (h : Bounded w s) : Bounded w s.hostDown := by
  unfold State.hostDown
  refine Bounded.emptyQueue ?_ _
  refine Bounded.stallSessions ?_
  exact h.setLink _ rfl rfl rfl

theorem Bounded.goodFrame (h : Bounded w s) : Bounded w s.goodFrame := by
  unfold State.goodFrame
  split
  · exact h.restartTimeout
  · refine Bounded.queueReport ?_ _
    refine Bounded.resumeSessions ?_
    refine Bounded.restartTimeout ?_
    exact h.setLink _ rfl rfl rfl

/-! ## Expiries -/

theorem leaveGuard_output (l : Line) : l.leaveGuard.output.length ≤ l.output.length := by
  unfold Line.leaveGuard
  split <;> simp

theorem Bounded.answerWindowExpires (h : Bounded w s) (p : Port) : Bounded w (s.answerWindowExpires p) := by
  unfold State.answerWindowExpires
  split
  · exact h.takeFault p _
  · exact h

theorem Bounded.speedWindowExpires (h : Bounded w s) (p : Port) : Bounded w (s.speedWindowExpires p) := by
  unfold State.speedWindowExpires
  split
  · exact h.takeFault p _
  · exact h

theorem Bounded.drainLimitExpires (h : Bounded w s) (p : Port) : Bounded w (s.drainLimitExpires p) := by
  unfold State.drainLimitExpires
  split
  · exact h.dropWithoutMessage p _
  · exact h

theorem Bounded.guardTimeExpires (h : Bounded w s) (p : Port) : Bounded w (s.guardTimeExpires p) := by
  unfold State.guardTimeExpires
  split
  · exact h.mapLine p _ leaveGuard_output
  · exact h

theorem Bounded.retryPeriodExpires (h : Bounded w s) (p : Port) : Bounded w (s.retryPeriodExpires p) := by
  unfold State.retryPeriodExpires
  split
  · exact (h.mapLine p Line.enterIdle fun _ => le_rfl).raiseEvent p _
  · exact h

theorem Bounded.noiseWindowExpires (h : Bounded w s) (p : Port) : Bounded w (s.noiseWindowExpires p) := by
  unfold State.noiseWindowExpires
  split
  · exact h.mapLine p _ fun _ => le_rfl
  · exact h

theorem Bounded.windowExpires (h : Bounded w s) (p : Port) : Bounded w (s.windowExpires p) := by
  unfold State.windowExpires
  split
  · exact h.answerWindowExpires p
  · exact h.speedWindowExpires p
  · exact h.drainLimitExpires p
  · exact h.guardTimeExpires p
  · exact h.retryPeriodExpires p
  · exact h

theorem Bounded.signOnLimitExpires (h : Bounded w s) (p : Port) : Bounded w (s.signOnLimitExpires p) := by
  unfold State.signOnLimitExpires
  repeat' split
  · exact h
  · exact (h.queueMessage p _).farewell p
  · exact h

theorem Bounded.waitLimitExpires (h : Bounded w s) (p : Port) : Bounded w (s.waitLimitExpires p) := by
  unfold State.waitLimitExpires
  repeat' split
  · exact h
  · exact (h.queueMessage p _).farewell p
  · exact h

theorem Bounded.holdExpires (h : Bounded w s) (n : Nat) : Bounded w (s.holdExpires n) := by
  unfold State.holdExpires
  repeat' split
  · exact h
  · exact h.closeAndAct n _
  · exact h

theorem Bounded.idleLimitExpires (h : Bounded w s) (n : Nat) : Bounded w (s.idleLimitExpires n) := by
  unfold State.idleLimitExpires
  repeat' split
  · exact h
  · exact h.closeAndAct n _
  · exact h

theorem Bounded.graceExpires (h : Bounded w s) (n : Nat) : Bounded w (s.graceExpires n) := by
  unfold State.graceExpires
  repeat' split
  · exact h
  · exact h.closeAndAct n _
  · exact h

theorem Bounded.countdownExpires (h : Bounded w s) (n : Nat) : Bounded w (s.countdownExpires n) := by
  unfold State.countdownExpires
  repeat' split
  · exact h
  · exact h.closeAndAct n _
  · exact h

theorem Bounded.closeAll (h : Bounded w s) (ns : List Nat) (c : Cause) :
    Bounded w (ns.foldl (fun q n => q.closeAndAct n c) s) := by
  induction ns generalizing s with
  | nil => exact h
  | cons n ns ih => exact ih (h.closeAndAct n c)

theorem Bounded.hostDownLimitExpires (h : Bounded w s) : Bounded w s.hostDownLimitExpires := by
  unfold State.hostDownLimitExpires State.loseSessions
  split
  · refine Bounded.closeAll ?_ _ _
    refine Bounded.nextDraw ?_
    exact h.setLink _ rfl rfl rfl
  · exact h

theorem Bounded.linkTimeoutExpires (h : Bounded w s) : Bounded w s.linkTimeoutExpires := by
  unfold State.linkTimeoutExpires
  split
  · exact h.hostDown
  · exact h

/-! ## Second marks -/

theorem countMark_output (l : Line) (k : Nat) : (l.countMark k).output = l.output := by
  rw [Line.countMark_eq]
  rfl

theorem Bounded.lowered (h : Bounded w s) : Bounded w s.advanceClock.countMark := by
  have hc : Bounded w s.advanceClock := by
    unfold State.advanceClock
    split
    · exact h.setTariff _ rfl rfl
    · exact h
  have hl := hc.mapLines (fun l => l.countMark s.advanceClock.limits.noiseWindow) fun l => (by rw [countMark_output])
  refine (hl.setAccounts _).setLink _ ?_ ?_ ?_ <;> (unfold Link.countMark; split <;> rfl)

theorem Bounded.countIdle (h : Bounded w s) (n : Nat) : Bounded w (s.countIdle n).1 := by
  unfold State.countIdle
  split
  · exact h
  · dsimp only
    repeat' split
    · exact (h.mapSession n _).closeAndAct n _
    · exact ((h.mapSession n _).queueMessageTo _ _).mapSession n _
    · exact h.mapSession n _

theorem Bounded.sessionShare (h : Bounded w s) (n : Nat) (ran : Bool) (v : Latch) :
    Bounded w (s.sessionShare n ran v) := by
  unfold State.sessionShare
  split
  · exact h
  · split
    · have hc := (h.mapSession n (fun y => { y with metered := restAt Config.maxMoney (y.metered + 1) })).chargeSecond n ran
      dsimp only
      split
      · next e => rw [e] at hc; exact hc.closeAndAct n _
      · next s2 e =>
        rw [e] at hc
        have hi := Bounded.countIdle hc n
        dsimp only at hi
        split
        · next e2 => rw [e2] at hi; exact hi
        · next e2 => rw [e2] at hi; exact hi.relatch n v
    · exact (h.mapSession n _).relatch n v
    · dsimp only
      split
      · exact (h.mapSession n _).closeAndAct n _
      · exact (h.mapSession n _).relatch n v

theorem Bounded.runTask (h : Bounded w s) (v : Latch) (x : MarkTask) : Bounded w (s.runTask v x) := by
  unfold State.runTask
  repeat' split
  · exact h.windowExpires _
  · exact h
  · exact h.signOnLimitExpires _
  · exact h
  · exact h.waitLimitExpires _
  · exact h
  · exact h.mapAccount _ _
  · exact h.hostDownLimitExpires
  · exact h
  · exact h.sessionShare _ _ _

theorem Bounded.runTasks (h : Bounded w s) (v : Latch) (xs : List MarkTask) : Bounded w (s.runTasks v xs) := by
  unfold State.runTasks
  induction xs generalizing s with
  | nil => exact h
  | cons x xs ih => exact ih (h.runTask v x)

theorem Bounded.secondMark (h : Bounded w s) : Bounded w s.secondMark := by
  unfold State.secondMark
  dsimp only
  split
  · refine Bounded.runTasks ?_ _ _
    refine Bounded.relatches ?_ _ _
    exact (h.lowered.nextDraw.runTasks _ _).minuteMark _
  · exact h.lowered.nextDraw.runTasks _ _

/-- The load band is settled after reset (R139). -/
theorem bandSettled_reset : State.reset.bandSettled := ⟨by decide, by decide, .inl ⟨rfl, by decide⟩⟩

/-- The power-up values are within every bound (R180). -/
theorem bounded_powerUp (s : State) : Bounded w s.powerUp := by
  refine ⟨Nat.zero_le _, fun p => ?_, fun h => absurd rfl h, Nat.zero_le _, fun _ => bandSettled_reset⟩
  simp [State.line, State.powerUp, Line.powerUp]

/-! ## Calls -/

theorem ringChange_output (l : Line) (b : Bool) : (l.ringChange b).output = l.output := by
  unfold Line.ringChange
  repeat' split
  all_goals rfl

theorem ringStart_output (l : Line) : l.ringStart.output = l.output := by
  unfold Line.ringStart
  repeat' split
  all_goals rfl

theorem abandon_output (l : Line) : l.abandon.output = l.output := by
  unfold Line.abandon
  split <;> rfl

theorem Bounded.ringCompletes (h : Bounded w s) (p : Port) : Bounded w (s.ringCompletes p) := by
  unfold State.ringCompletes
  dsimp only
  repeat' split
  · refine Bounded.raiseEvent (h.setLine p _ ?_) p _
    exact h.output_le p
  · refine h.setLine p _ ?_
    exact h.output_le p
  · exact h

theorem Bounded.ringSticks (h : Bounded w s) (p : Port) : Bounded w (s.ringSticks p) := by
  unfold State.ringSticks
  split
  · exact h.takeRingStuck p
  · exact h

theorem Bounded.carrierDetectChange (h : Bounded w s) (p : Port) (b : Bool) :
    Bounded w (s.mapLine p (fun l =>
      if l.carrierInput = b then l
      else { l with carrierInput := b, carrierTiming := l.state.carrierTimingAt b })) := by
  refine h.mapLine p _ fun l => ?_
  split <;> exact le_rfl

theorem Bounded.carrierQualifies (h : Bounded w s) (p : Port) : Bounded w (s.carrierQualifies p) := by
  unfold State.carrierQualifies
  dsimp only
  split
  · refine h.setLine p _ ?_
    exact h.output_le p
  · exact h

theorem Bounded.carrierLost (h : Bounded w s) (p : Port) : Bounded w (s.carrierLost p) := by
  unfold State.carrierLost
  dsimp only
  split
  · split
    · exact (h.goOnHook p _).raiseEvent p _
    · exact ((h.tellHolder p _).goOnHook p _).raiseEvent p _
    · exact (h.goOnHook p _).raiseEvent p _
    · exact h
  · exact h

theorem Bounded.speedFound (h : Bounded w s) (p : Port) (sp : Speed) (par : Parity) :
    Bounded w (s.speedFound p sp par) := by
  unfold State.speedFound
  refine Bounded.queueMessage (Bounded.queueMessage (Bounded.raiseEvent ?_ p _) p _) p _
  exact h.mapLine p _ fun _ => Nat.zero_le _

theorem Bounded.attemptFails (h : Bounded w s) (p : Port) : Bounded w (s.attemptFails p) := by
  have hl := h.setLine p { s.line p with searchAttempts := (s.line p).searchAttempts + 1, settling := true } (h.output_le p)
  unfold State.attemptFails
  dsimp only
  repeat' split
  · exact hl
  · exact hl.takeFault p _
  · exact h

theorem Bounded.settleInterval (h : Bounded w s) (p : Port) :
    Bounded w (s.mapLine p (fun l => if l.state = .searching then { l with settling := false } else l)) := by
  refine h.mapLine p _ fun l => ?_
  split <;> exact le_rfl

/-! ## Characters -/

theorem Bounded.signalLife (h : Bounded w s) (p : Port) : Bounded w (s.signalLife p) := by
  unfold State.signalLife
  split
  · exact h.mapSession _ _
  · exact h

theorem Bounded.sendEcho (h : Bounded w s) (p : Port) (on : Bool) (r : Assembled) : Bounded w (s.sendEcho p on r) := by
  have h1 : Bounded w (if on then s.appendEcho p r.echo else s) := by
    split
    · exact h.appendEcho p _
    · exact h
  unfold State.sendEcho
  dsimp only
  generalize (if on = true then _ else s) = q at h1 ⊢
  split
  · exact h1.sendBel p
  · exact h1

theorem Bounded.assembleInput (h : Bounded w s) (p : Port) (n : Nat) (c : Code) : Bounded w (s.assembleInput p n c) := by
  have h1 := Bounded.sendEcho (h.setLine p { s.line p with
    partialRecord := ((s.line p).partialRecord.assemble (s.line p).settings false c).rest } (h.output_le p)) p
    (s.line p).echo ((s.line p).partialRecord.assemble (s.line p).settings false c)
  unfold State.assembleInput
  dsimp only
  repeat' split
  · exact h1.mapLine p _ fun _ => le_rfl
  · exact h1
  · refine Bounded.offerRecord ?_ p n _
    exact h1.mapLine p _ fun _ => le_rfl

theorem Bounded.assembleSignOn (h : Bounded w s) (p : Port) (d : Dialogue) (c : Code) :
    Bounded w (s.assembleSignOn p d c) := by
  unfold State.assembleSignOn
  dsimp only
  split
  · refine Bounded.sendEcho (h.setLine p _ ?_) p true _
    exact h.output_le p
  · refine Bounded.judgeRecord (Bounded.sendEcho (h.setLine p _ ?_) p true _) p d _ _ _
    exact h.output_le p

theorem Bounded.deliver (h : Bounded w s) (p : Port) (c : Code) : Bounded w (s.deliver p c) := by
  unfold State.deliver
  split
  · exact h
  · split
    · exact h
    · exact h.assembleSignOn p _ c
    · exact h.sendBel p
    · exact h
  · split
    · exact h
    · split
      · split
        · exact h.sendBel p
        · exact h.assembleInput p _ c
      · exact h.sendBel p
      · exact h

theorem Bounded.receive (h : Bounded w s) (p : Port) (c : Code) (bit framing : Bool) :
    Bounded w (s.receive p c bit framing) := by
  have h1 := (h.mapLine p (fun l => { l with space := .none }) fun _ => le_rfl)
  unfold State.receive
  split
  · have hc := (h1.signalLife p).countError p
    dsimp only
    split
    · split
      · next e => rw [e] at hc; exact hc
      · next e =>
        rw [e] at hc
        split
        · exact hc.deliver p _
        · exact hc
    · exact (h1.signalLife p).deliver p c
  · exact h1
  · exact h

theorem Bounded.breakPending (h : Bounded w s) (p : Port) :
    Bounded w (s.mapLine p (fun l =>
      if l.state = .connected ∨ l.state = .dropping then { l with space := .breakPending } else l)) := by
  refine h.mapLine p _ fun l => ?_
  split <;> exact le_rfl

theorem Bounded.breakRecord (h : Bounded w s) (p : Port) (n : Nat) : Bounded w (s.breakRecord p n) := by
  have h1 := (h.mapLine p (fun k => { k with partialRecord := {} }.applyPending) fun _ => le_rfl).discardOutput p
  unfold State.breakRecord
  dsimp only
  split
  · exact h1.mapLine p _ fun _ => le_rfl
  · exact h1.offerRecord p n _

theorem Bounded.breakActs (h : Bounded w s) (p : Port) : Bounded w (s.breakActs p) := by
  unfold State.breakActs
  repeat' split
  · exact h
  · exact h.assembleSignOn p _ _
  · exact h
  · exact h
  · exact (h.signalLife p).breakRecord p _
  · exact h

theorem sendNext_output (l : Line) : l.sendNext.output.length ≤ l.output.length := by
  unfold Line.sendNext
  split
  · exact le_rfl
  · exact le_rfl
  · next e => rw [e]; exact Nat.le_succ _

theorem Bounded.sendCharacter (h : Bounded w s) (p : Port) : Bounded w (s.sendCharacter p) := by
  have h1 := h.mapLine p Line.sendNext sendNext_output
  unfold State.sendCharacter
  dsimp only
  split
  · exact h1.drainedTest p
  · exact h1

theorem reportMessage_output {l k : Line} {m : Slot} (e : l.reportMessage m = some k) : k.output = l.output := by
  unfold Line.reportMessage at e
  split at e
  · cases e
  · split at e <;> cases e
    rfl

theorem endGreeting_output (l : Line) (m : Slot) : (l.endGreeting m).output = l.output := by
  unfold Line.endGreeting
  repeat' split
  all_goals rfl

/-! ## Orders on lines -/

theorem Bounded.serviceIn (h : Bounded w s) (p : Port) : Bounded w (s.serviceIn p) := by
  unfold State.serviceIn
  repeat' split
  · exact (h.mapLine p Line.enterIdle fun _ => le_rfl).placeReply _ _ _
  · exact h.refuse _ _
  · exact h.placeReply _ _ _

theorem outOfService_output (l : Line) : l.outOfService.output.length ≤ l.output.length := by
  unfold Line.outOfService
  dsimp only
  split <;> simp

theorem Bounded.removeHolder (h : Bounded w s) (p : Port) : Bounded w (s.removeHolder p) := by
  unfold State.removeHolder
  repeat' split
  · exact h.closeSession _ _ _
  · exact h.endDialogue p
  · exact h
  · exact h

theorem Bounded.serviceOut (h : Bounded w s) (p : Port) : Bounded w (s.serviceOut p) := by
  have h2 := (((h.removeHolder p).mapLine p _ outOfService_output).setInputWait
    (((s.removeHolder p).mapLine p Line.outOfService).inputWait.filter (· ≠ p))).setWaitQueue
    (((s.removeHolder p).mapLine p Line.outOfService).waitQueue.filter (· ≠ p))
  unfold State.serviceOut
  dsimp only
  repeat' split
  · exact h
  · exact h2.raiseEvent p _
  · exact h2

theorem Bounded.serviceRestore (h : Bounded w s) (p : Port) : Bounded w (s.serviceRestore p) := by
  unfold State.serviceRestore
  split
  · refine Bounded.raiseEvent ?_ p _
    exact h.mapLine p _ fun _ => le_rfl
  · refine Bounded.raiseEvent ?_ p _
    exact h.mapLine p _ fun _ => le_rfl
  · exact h

/-- What an order keeps: the bounds of every state that it finds. -/
def KeepsBounds (order : List Byte → State → State) : Prop :=
  ∀ (w : Prop) (body : List Byte) (s : State), Bounded w s → Bounded w (order body s)

theorem keepsBounds_lineService : KeepsBounds orderLineService := by
  intro w body s h
  unfold orderLineService
  split
  · exact h.serviceIn _
  · exact (h.serviceOut _).placeReply _ _ _
  · exact (h.serviceRestore _).placeReply _ _ _
  · exact h.refuse _ _

theorem takeSettings_output (l : Line) (a : AssemblySettings) : (l.takeSettings a).output = l.output := by
  unfold Line.takeSettings
  split <;> rfl

theorem Bounded.setCallGroup (h : Bounded w s) (p : Port) (g : CallGroup) : Bounded w (s.setCallGroup p g) := by
  unfold State.setCallGroup
  split
  · refine Bounded.placeReply ?_ _ _ _
    exact h.mapLine p _ fun _ => le_rfl
  · exact h.refuse _ _

theorem Bounded.setInputGroup (h : Bounded w s) (p : Port) (g : InputGroup) : Bounded w (s.setInputGroup p g) := by
  unfold State.setInputGroup
  repeat' split
  · refine Bounded.placeReply ?_ _ _ _
    exact h.mapLine p _ fun l => (by rw [takeSettings_output])
  · exact h.refuse _ _
  · exact h.refuse _ _

theorem keepsBounds_setLine : KeepsBounds orderSetLine := by
  intro w body s h
  unfold orderSetLine
  repeat' split
  · exact h.setCallGroup _ _
  · exact h.refuse _ _
  · exact h.refuse _ _
  · exact h.setInputGroup _ _
  · exact h.refuse _ _
  · exact h.refuse _ _
  · exact h.refuse _ _

theorem Bounded.dropConnected (h : Bounded w s) (p : Port) : Bounded w (s.dropConnected p) := by
  unfold State.dropConnected
  split
  · exact h.closeAndAct _ _
  · exact (h.endDialogue p).dropWithoutMessage p _
  · exact h.dropWithoutMessage p _

theorem keepsBounds_dropLine : KeepsBounds orderDropLine := by
  intro w body s h
  unfold orderDropLine State.dropCall
  repeat' split
  · exact (h.dropWithoutMessage _ _).placeReply _ _ _
  · exact (h.dropWithoutMessage _ _).placeReply _ _ _
  · exact (h.dropConnected _).placeReply _ _ _
  · exact h.refuse _ _
  · exact h.refuse _ _

theorem keepsBounds_queryLine : KeepsBounds orderQueryLine := by
  intro w body s h
  unfold orderQueryLine
  split
  · exact h.placeReply _ _ _
  · exact h.refuse _ _

/-! ## Orders on accounts -/

theorem keepsBounds_loadAccount : KeepsBounds orderLoadAccount := by
  intro w body s h
  unfold orderLoadAccount State.loadAccount
  repeat' split
  · exact h.refuse _ _
  · exact (h.setAccounts _).placeReply _ _ _
  · exact ((h.mapAccount _ _).balanceChanged _ _ _).placeReply _ _ _
  · exact h.refuse _ _
  · exact h.refuse _ _

theorem keepsBounds_creditAccount : KeepsBounds orderCreditAccount := by
  intro w body s h
  unfold orderCreditAccount
  repeat' split
  · exact h.refuse _ _
  · exact h.refuse _ _
  · exact ((h.mapAccount _ _).balanceChanged _ _ _).placeReply _ _ _

theorem keepsBounds_dropAccount : KeepsBounds orderDropAccount := by
  intro w body s h
  unfold orderDropAccount
  repeat' split
  · exact h.refuse _ _
  · exact h.refuse _ _
  · exact h.refuse _ _
  · exact (h.setAccounts _).placeReply _ _ _

theorem keepsBounds_unlockAccount : KeepsBounds orderUnlockAccount := by
  intro w body s h
  unfold orderUnlockAccount
  repeat' split
  · exact h.refuse _ _
  · exact h.refuse _ _
  · exact (h.mapAccount _ _).placeReply _ _ _

theorem keepsBounds_queryAccount : KeepsBounds orderQueryAccount := by
  intro w body s h
  unfold orderQueryAccount
  repeat' split
  · exact h.refuse _ _
  · exact h.refuse _ _
  · exact h.placeReply _ _ _

/-! ## Orders on the part -/

theorem keepsBounds_mark : KeepsBounds orderMark := by
  intro w body s h
  unfold orderMark
  split
  · exact h.placeReply _ _ _
  · exact h.refuse _ _

theorem Bounded.restartQueues (h : Bounded w s) : Bounded w s.restartQueues := by
  have hl := h.mapLines (fun l => if l.waitingRecord.isSome then l.clearWaiting else l) fun l => (by split <;> simp)
  exact ⟨Nat.zero_le _, hl.outputs, hl.held, hl.band, hl.settled⟩

theorem dropDialogue_output (l : Line) : l.dropDialogue.output = l.output := by
  unfold Line.dropDialogue
  split <;> rfl

theorem Bounded.restartDialogues (h : Bounded w s) : Bounded w s.restartDialogues :=
  (h.mapLines Line.dropDialogue fun l => (by rw [dropDialogue_output])).setWaitQueue []

theorem Bounded.restartSessions (h : Bounded w s) : Bounded w s.restartSessions := by
  unfold State.restartSessions
  have hd := h.nextDraw
  generalize s.nextDraw = q at hd
  induction s.drawOrder (s.sessions.map (·.number)) generalizing q with
  | nil => exact hd
  | cons n ns ih => exact ih _ (hd.closeSession n _ _)

theorem restart_output (l : Line) : l.restart.output.length ≤ l.output.length := by
  unfold Line.restart
  dsimp only
  split <;> simp

theorem Bounded.restartPart (h : Bounded w s) : Bounded w s.restartPart := by
  unfold State.restartPart State.restartMonitor
  refine Bounded.restartTimeout ?_
  refine Bounded.setLink ?_ _ rfl rfl rfl
  exact h.restartQueues.restartDialogues.restartSessions.mapLines _ restart_output

theorem keepsBounds_restart : KeepsBounds orderRestart := by
  intro w body s h
  unfold orderRestart
  split
  · exact h.restartPart.placeReply _ _ _
  · exact h.refuse _ _

theorem keepsBounds_setClock : KeepsBounds orderSetClock := by
  intro w body s h
  unfold orderSetClock State.setClockTo
  split
  · refine Bounded.placeReply (Bounded.selectPeriod ?_) _ _ _
    exact h.setTariff _ rfl rfl
  · exact h.refuse _ _

theorem Bounded.storeLimits (h : Bounded w s) (x : Limits) : Bounded w (s.storeLimits x) := by
  have h1 : Bounded w (State.restartTimeout { s with link := { s.link with limits := x } }) :=
    Bounded.restartTimeout (h.setLink _ rfl rfl rfl)
  unfold State.storeLimits
  dsimp only
  split
  · exact h1.evaluate
  · exact h1

theorem keepsBounds_setLimits : KeepsBounds orderSetLimits := by
  intro w body s h
  unfold orderSetLimits
  split
  · exact (h.storeLimits _).placeReply _ _ _
  · exact h.refuse _ _

theorem keepsBounds_setReports : KeepsBounds orderSetReports := by
  intro w body s h
  unfold orderSetReports
  split
  · refine Bounded.placeReply ?_ _ _ _
    exact h.setLink _ rfl rfl rfl
  · exact h.refuse _ _

theorem keepsBounds_setMessage : KeepsBounds orderSetMessage := by
  intro w body s h
  unfold orderSetMessage
  split
  · refine Bounded.placeReply ?_ _ _ _
    exact h.same rfl
  · exact h.refuse _ _

theorem keepsBounds_setFaultPolicy : KeepsBounds orderSetFaultPolicy := by
  intro w body s h
  unfold orderSetFaultPolicy
  split
  · refine Bounded.placeReply ?_ _ _ _
    exact h.same rfl
  · exact h.refuse _ _

theorem keepsBounds_setClass : KeepsBounds orderSetClass := by
  intro w body s h
  unfold orderSetClass
  split
  · refine Bounded.placeReply ?_ _ _ _
    exact h.same rfl
  · exact h.refuse _ _

/-- The band that SET LOAD STEPS sets afresh is settled for the slots in use (R139, R140). -/
theorem settled_bandOf (x : LoadSteps) (u : Nat) (h12 : x.t1 < x.t2) (h23 : x.t2 < x.t3) :
    x.bandOf u ≤ 3 ∧ x.settled (x.bandOf u) u := by
  unfold LoadSteps.bandOf LoadSteps.settled
  repeat' split
  all_goals omega

theorem Bounded.storeLoadSteps (h : Bounded w s) (x : LoadSteps) (h12 : x.t1 < x.t2) (h23 : x.t2 < x.t3) :
    Bounded w (s.storeLoadSteps x) := by
  obtain ⟨fits, settled⟩ := settled_bandOf x s.sessions.length h12 h23
  have h1 : Bounded False { s with tariff := { s.tariff with steps := x } } :=
    ⟨h.reports, h.outputs, h.held, h.band, False.elim⟩
  unfold State.storeLoadSteps
  dsimp only
  split
  · next e => exact ⟨h1.reports, h1.outputs, h1.held, h1.band, fun _ => e ▸ settled⟩
  · obtain ⟨hr, ho, hh, hb, _⟩ := h1.setBand (x.bandOf s.slotsInUse) false fits
    exact ⟨hr, ho, hh, hb, fun _ => State.setBand_settled _ _ _ settled⟩

theorem readLoadSteps_increasing {body : List Byte} {x : LoadSteps} (e : readLoadSteps body = some x) :
    x.t1 < x.t2 ∧ x.t2 < x.t3 := by
  unfold readLoadSteps at e
  split at e
  · split at e <;> cases e
    next hb =>
      obtain ⟨_, h12, h23, _⟩ := hb
      exact ⟨h12, h23⟩
  · cases e

theorem keepsBounds_setLoadSteps : KeepsBounds orderSetLoadSteps := by
  intro w body s h
  unfold orderSetLoadSteps
  split
  · next x e =>
    obtain ⟨h12, h23⟩ := readLoadSteps_increasing e
    exact (h.storeLoadSteps x.clamp h12 h23).placeReply _ _ _
  · exact h.refuse _ _

/-! ## Orders on sessions, bills and tariffs -/

theorem Bounded.sendHostText (h : Bounded w s) (p : Port) (text : List Code) : Bounded w (s.sendHostText p text) := by
  have fits := h.output_le p
  unfold State.sendHostText
  split
  · next room =>
    refine Bounded.placeReply (h.setLine p _ ?_) _ _ _
    simp only [Config.hostTextPlaces] at room
    rcases room with rfl | room <;> simp only [List.length_append, List.length_map, List.length_nil] <;> omega
  · refine Bounded.refuse ?_ _ _
    exact h.mapLine p _ fun _ => le_rfl

theorem keepsBounds_sendText : KeepsBounds orderSendText := by
  intro w body s h
  unfold orderSendText
  repeat' split
  · exact h.refuse _ _
  · exact h.refuse _ _
  · exact h.refuse _ _
  · exact h.refuse _ _
  · exact h.refuse _ _
  · exact h.sendHostText _ _

theorem keepsBounds_endSession : KeepsBounds orderEndSession := by
  intro w body s h
  unfold orderEndSession
  repeat' split
  · exact h.refuse _ _
  · exact h.refuse _ _
  · exact (h.closeAndAct _ _).placeReply _ _ _

theorem keepsBounds_querySession : KeepsBounds orderQuerySession := by
  intro w body s h
  unfold orderQuerySession
  repeat' split
  · exact h.refuse _ _
  · exact h.refuse _ _
  · exact h.placeReply _ _ _

theorem keepsBounds_takeBill : KeepsBounds orderTakeBill := by
  intro w body s h
  unfold orderTakeBill
  repeat' split
  · exact h.placeReply _ _ _
  · exact (h.setBills _).placeReply _ _ _
  · exact h.refuse _ _

theorem keepsBounds_tariffClear : KeepsBounds orderTariffClear := by
  intro w body s h
  unfold orderTariffClear
  repeat' split
  · refine Bounded.placeReply ?_ _ _ _
    exact h.setTariff _ rfl rfl
  · exact h.refuse _ _
  · exact h.refuse _ _

theorem Bounded.writeStandby (h : Bounded w s) (i : Nat) (e : Option TariffEntry) : Bounded w (s.writeStandby i e) :=
  h.setTariff _ rfl rfl

theorem keepsBounds_tariffEntry : KeepsBounds orderTariffEntry := by
  intro w body s h
  unfold orderTariffEntry
  repeat' split
  · exact h.refuse _ _
  · exact h.refuse _ _
  · exact h.refuse _ _
  · exact (h.writeStandby _ _).placeReply _ _ _
  · exact h.refuse _ _
  · exact (h.writeStandby _ _).placeReply _ _ _

theorem keepsBounds_commitTariff : KeepsBounds orderCommitTariff := by
  intro w body s h
  unfold orderCommitTariff
  repeat' split
  · exact h.refuse _ _
  · exact h.refuse _ _
  · exact h.refuse _ _
  · exact h.refuse _ _
  · refine Bounded.placeReply ?_ _ _ _
    exact h.setTariff _ rfl rfl

theorem keepsBounds_queryTariff : KeepsBounds orderQueryTariff := by
  intro w body s h
  unfold orderQueryTariff
  repeat' split
  · exact h.placeReply _ _ _
  · exact h.placeReply _ _ _
  · exact h.refuse _ _
  · exact h.refuse _ _

/-! ## Frames -/

theorem keepsBounds_unknown (kind : Byte) : KeepsBounds (orderUnknown kind) := fun _ _ _ h => h.placeReply _ _ _

theorem keepsBounds_orderFor {kind : Byte} {order : List Byte → State → State} (e : orderFor kind = some order) :
    KeepsBounds order := by
  unfold orderFor at e
  split at e <;> cases e
  · exact keepsBounds_mark
  · exact keepsBounds_restart
  · exact keepsBounds_setClock
  · exact keepsBounds_setLimits
  · exact keepsBounds_setReports
  · exact keepsBounds_setMessage
  · exact keepsBounds_setFaultPolicy
  · exact keepsBounds_setClass
  · exact keepsBounds_setLoadSteps
  · exact keepsBounds_loadAccount
  · exact keepsBounds_creditAccount
  · exact keepsBounds_dropAccount
  · exact keepsBounds_unlockAccount
  · exact keepsBounds_queryAccount
  · exact keepsBounds_tariffClear
  · exact keepsBounds_tariffEntry
  · exact keepsBounds_commitTariff
  · exact keepsBounds_queryTariff
  · exact keepsBounds_lineService
  · exact keepsBounds_setLine
  · exact keepsBounds_dropLine
  · exact keepsBounds_queryLine
  · exact keepsBounds_sendText
  · exact keepsBounds_endSession
  · exact keepsBounds_querySession
  · exact keepsBounds_takeBill

theorem Bounded.carryOut (h : Bounded w s) (f : Frame) : Bounded w (s.carryOut f) := by
  unfold State.carryOut
  repeat' split
  · next e => exact keepsBounds_orderFor e _ _ _ h.goodFrame
  · exact h.goodFrame.placeReply _ _ _
  · exact h.placeReply _ _ _

/-- A frame becomes the held order behind a reply (R167). -/
theorem Bounded.holdOrder (h : Bounded w s) (f : Frame) (hr : s.link.replyPath ≠ none) :
    Bounded w { s with link := { s.link with heldOrder := some f } } :=
  ⟨h.reports, h.outputs, fun _ => hr, h.band, h.settled⟩

theorem Bounded.takeBytes (h : Bounded w s) (bs : List Byte) : Bounded w (s.takeBytes bs) :=
  State.takeBytes_keeps (Bounded w) (fun _ f _ _ h => h.carryOut f) (fun _ _ h => h.setLink _ rfl rfl rfl)
    (fun _ f hr h => h.holdOrder f hr) s bs h

theorem Bounded.takeFrame (h : Bounded w s) (f : Frame) (carry : State → State) (hc : Bounded w (carry s)) :
    Bounded w (s.takeFrame f carry) := by
  unfold State.takeFrame State.meetFrame
  repeat' split
  · exact h
  · next hr => exact h.holdOrder f (Option.isSome_iff_ne_none.mp hr)
  · exact hc
  · exact h.takeBytes _

theorem Bounded.takeOrder (h : Bounded w s) (kind : Byte) (body : List Byte) {order : List Byte → State → State}
    (ho : KeepsBounds order) : Bounded w (s.takeOrder kind body order) :=
  h.takeFrame _ _ (ho _ _ _ h.goodFrame)

theorem Bounded.sendReply (h : Bounded w s) (r : Reply) : Bounded w (s.sendReply r) := by
  have h1 : Bounded w { s with link := { s.link with sending := r.frame, replyPath := none, heldOrder := none } } :=
    ⟨h.reports, h.outputs, fun e => absurd rfl e, h.band, h.settled⟩
  unfold State.sendReply
  dsimp only
  split
  · exact h1.carryOut _
  · exact h1

theorem Bounded.sendReport (h : Bounded w s) (r : Report) (rest : List Report) (e : s.link.reports = r :: rest) :
    Bounded w (s.sendReport r rest) := by
  have shorter : rest.length ≤ 64 := by
    have fits := h.reports
    simp only [State.reportsFit, e, List.length_cons] at fits
    omega
  have h1 : Bounded w { s with link := { s.link with sending := r.frame s.link.lost, reports := rest, lost := false } } :=
    ⟨shorter, h.outputs, h.held, h.band, h.settled⟩
  exact h1.releaseInput _

/-! ## Every command -/

/-- Every command has a next state, which keeps the bounds. -/
theorem Bounded.exec (h : Bounded w s) (c : Instr) : ∃ t, exec c s = .next t ∧ Bounded w t := by
  cases c with
  | powerUp => exact ⟨_, rfl, bounded_powerUp s⟩
  | secondMark => exact ⟨_, rfl, h.secondMark⟩
  | answerWindowExpiry p => exact ⟨_, rfl, h.answerWindowExpires p⟩
  | speedWindowExpiry p => exact ⟨_, rfl, h.speedWindowExpires p⟩
  | drainLimitExpiry p => exact ⟨_, rfl, h.drainLimitExpires p⟩
  | guardTimeExpiry p => exact ⟨_, rfl, h.guardTimeExpires p⟩
  | retryPeriodExpiry p => exact ⟨_, rfl, h.retryPeriodExpires p⟩
  | noiseWindowExpiry p => exact ⟨_, rfl, h.noiseWindowExpires p⟩
  | lockTimerExpiry a => exact ⟨_, rfl, h.mapAccount a _⟩
  | signOnLimitExpiry p => exact ⟨_, rfl, h.signOnLimitExpires p⟩
  | waitLimitExpiry p => exact ⟨_, rfl, h.waitLimitExpires p⟩
  | holdExpiry n => exact ⟨_, rfl, h.holdExpires n⟩
  | idleLimitExpiry n => exact ⟨_, rfl, h.idleLimitExpires n⟩
  | fundsGraceExpiry n => exact ⟨_, rfl, h.graceExpires n⟩
  | closingCountdownExpiry n => exact ⟨_, rfl, h.countdownExpires n⟩
  | hostDownLimitExpiry => exact ⟨_, rfl, h.hostDownLimitExpires⟩
  | linkTimeoutExpiry => exact ⟨_, rfl, h.linkTimeoutExpires⟩
  | ringIndicateChange p b => exact ⟨_, rfl, h.mapLine p _ fun l => (by rw [ringChange_output])⟩
  | ringStart p => exact ⟨_, rfl, h.mapLine p _ fun l => (by rw [ringStart_output])⟩
  | ringCompletion p => exact ⟨_, rfl, h.ringCompletes p⟩
  | abandonTimerExpiry p => exact ⟨_, rfl, h.mapLine p _ fun l => (by rw [abandon_output])⟩
  | ringStuck p => exact ⟨_, rfl, h.ringSticks p⟩
  | carrierDetectChange p b => exact ⟨_, rfl, h.carrierDetectChange p b⟩
  | carrierQualifiedPresent p => exact ⟨_, rfl, h.carrierQualifies p⟩
  | carrierQualifiedLost p => exact ⟨_, rfl, h.carrierLost p⟩
  | speedFound p width eighth =>
    refine ⟨_, rfl, ?_⟩
    repeat' split
    · exact h.speedFound p _ _
    · exact h
    · exact h
  | searchAttemptFailed p f =>
    refine ⟨_, rfl, ?_⟩
    split
    · exact h.attemptFails p
    · exact h
  | settleInterval p => exact ⟨_, rfl, h.settleInterval p⟩
  | characterReceived p c bit => exact ⟨_, rfl, h.receive p c bit false⟩
  | heldCharacterReceived p c bit => exact ⟨_, rfl, h.receive p c bit true⟩
  | breakPending p => exact ⟨_, rfl, h.breakPending p⟩
  | breakReceived p =>
    have h1 := h.mapLine p (fun l => { l with space := .none }) fun _ => le_rfl
    refine ⟨_, rfl, ?_⟩
    dsimp only
    repeat' split
    · exact h1
    · exact h1.breakActs p
    · exact h1
  | longSpace p =>
    have h1 := h.mapLine p (fun l => { l with space := .longSpace }) fun _ => le_rfl
    refine ⟨_, rfl, ?_⟩
    split
    · exact h1.takeFault p _
    · exact h1
    · exact h
  | characterSent p =>
    refine ⟨_, rfl, ?_⟩
    split
    · exact h.sendCharacter p
    · exact h
  | partMessageSent p m =>
    refine ⟨_, rfl, ?_⟩
    repeat' split
    · next e => exact h.setLine p _ (by rw [endGreeting_output, reportMessage_output e]; exact h.output_le p)
    · exact h
    · exact h
  | dropDrained p =>
    refine ⟨_, rfl, ?_⟩
    split
    · exact h.dropWithoutMessage p _
    · exact h
  | frameLengthDiscard kind length =>
    refine ⟨_, rfl, ?_⟩
    split
    · exact h
    · exact h.takeBytes _
  | frameBadCheck kind body check => exact ⟨_, rfl, h.takeFrame _ _ (h.placeReply _ _ _)⟩
  | unknownKind kind body => exact ⟨_, rfl, h.takeOrder kind body (keepsBounds_unknown kind)⟩
  | replySendStart =>
    refine ⟨_, rfl, ?_⟩
    split
    · exact h.sendReply _
    · exact h
  | reportSendStart =>
    refine ⟨_, rfl, ?_⟩
    split
    · next e => exact h.sendReport _ _ e
    · exact h
  | mark b => exact ⟨_, rfl, h.takeOrder _ b keepsBounds_mark⟩
  | restart b => exact ⟨_, rfl, h.takeOrder _ b keepsBounds_restart⟩
  | setClock b => exact ⟨_, rfl, h.takeOrder _ b keepsBounds_setClock⟩
  | setLimits b => exact ⟨_, rfl, h.takeOrder _ b keepsBounds_setLimits⟩
  | setReports b => exact ⟨_, rfl, h.takeOrder _ b keepsBounds_setReports⟩
  | setMessage b => exact ⟨_, rfl, h.takeOrder _ b keepsBounds_setMessage⟩
  | setFaultPolicy b => exact ⟨_, rfl, h.takeOrder _ b keepsBounds_setFaultPolicy⟩
  | setClass b => exact ⟨_, rfl, h.takeOrder _ b keepsBounds_setClass⟩
  | setLoadSteps b => exact ⟨_, rfl, h.takeOrder _ b keepsBounds_setLoadSteps⟩
  | loadAccount b => exact ⟨_, rfl, h.takeOrder _ b keepsBounds_loadAccount⟩
  | creditAccount b => exact ⟨_, rfl, h.takeOrder _ b keepsBounds_creditAccount⟩
  | dropAccount b => exact ⟨_, rfl, h.takeOrder _ b keepsBounds_dropAccount⟩
  | unlockAccount b => exact ⟨_, rfl, h.takeOrder _ b keepsBounds_unlockAccount⟩
  | queryAccount b => exact ⟨_, rfl, h.takeOrder _ b keepsBounds_queryAccount⟩
  | tariffClear b => exact ⟨_, rfl, h.takeOrder _ b keepsBounds_tariffClear⟩
  | tariffEntry b => exact ⟨_, rfl, h.takeOrder _ b keepsBounds_tariffEntry⟩
  | commitTariff b => exact ⟨_, rfl, h.takeOrder _ b keepsBounds_commitTariff⟩
  | queryTariff b => exact ⟨_, rfl, h.takeOrder _ b keepsBounds_queryTariff⟩
  | lineServiceIn b | lineServiceOut b | lineServiceRestore b =>
    exact ⟨_, rfl, h.takeOrder _ b keepsBounds_lineService⟩
  | setLineCall b | setLineInput b => exact ⟨_, rfl, h.takeOrder _ b keepsBounds_setLine⟩
  | dropLine b => exact ⟨_, rfl, h.takeOrder _ b keepsBounds_dropLine⟩
  | queryLine b => exact ⟨_, rfl, h.takeOrder _ b keepsBounds_queryLine⟩
  | sendText b => exact ⟨_, rfl, h.takeOrder _ b keepsBounds_sendText⟩
  | endSession b => exact ⟨_, rfl, h.takeOrder _ b keepsBounds_endSession⟩
  | querySession b => exact ⟨_, rfl, h.takeOrder _ b keepsBounds_querySession⟩
  | takeBill b => exact ⟨_, rfl, h.takeOrder _ b keepsBounds_takeBill⟩

/-- Settles O51: every operation of the part keeps `Bounded`, and a step is one command. -/
theorem stepKeepsTheQueuesBounded : Obligations.StepKeepsTheQueuesBounded := by
  intro s t hr ho hh hb e
  have h : Bounded s.bandSettled s := ⟨hr, ho, hh, hb, id⟩
  unfold step at e
  split at e
  · cases e
    exact ⟨hr, ho, hh, hb, id⟩
  · next c rest _ =>
    obtain ⟨t', e', h'⟩ := Bounded.exec (s := s.withPending rest) (h.same rfl) c
    rw [e'] at e
    cases e
    exact ⟨h'.reports, h'.outputs, h'.held, h'.band, h'.settled⟩

end Sys2Proof.Machine.InOut
end

-- The state after reset.
section
namespace Sys2Proof.Machine.InOut

/-! ## The state after reset -/

/-- Every line record after reset has its power-up values (R1, R23, R50, R88). -/
theorem line_reset (p : Port) : State.reset.line p = {} := by simp [State.line, State.reset]

/-- The session list, the account table, the bill list and the wait queue are empty after reset. -/
theorem lists_reset : State.reset.sessions = [] ∧ State.reset.accounts = [] ∧ State.reset.bills = [] ∧ State.reset.waitQueue = [] :=
  ⟨rfl, rfl, rfl, rfl⟩

/-- Nothing holds a line after reset. -/
theorem linesBound_reset : State.reset.linesBound := by
  have free (p : Port) : (State.reset.line p).holder = .none := by rw [line_reset]
  simp [State.linesBound, free, lists_reset]

theorem bounded_reset : Bounded True State.reset :=
  ⟨Nat.zero_le _, fun p => by rw [line_reset]; exact Nat.zero_le _, fun h => absurd rfl h, Nat.zero_le _,
    fun _ => bandSettled_reset⟩

theorem metersSound_reset : State.reset.metersSound := by
  have default (c : Fin 4) : State.reset.classes[c] = {} := by simp [State.reset]
  simp [State.metersSound, default, lists_reset, ClassRecord.sound]

theorem hostSound_reset : State.reset.hostSound := by
  have up : State.reset.link.host = .up ∧ State.reset.link.downRemaining = none := ⟨rfl, rfl⟩
  simp [State.hostSound, up, lists_reset]

theorem numbersSound_reset : State.reset.numbersSound := by
  have next : State.reset.nextNumber = 1 := rfl
  simp [State.numbersSound, next, lists_reset]

/-- Settles O57: the lists of the reset state are empty, its lines are free and its classes are the default ones. -/
theorem invariantsHoldAtReset : Obligations.InvariantsHoldAtReset := by
  obtain ⟨reports, outputs, held, band, settled⟩ := bounded_reset
  refine ⟨reports, outputs, held, band, settled trivial, ?_, ?_, ?_, metersSound_reset, hostSound_reset, ?_,
    linesBound_reset, numbersSound_reset, ?_⟩
  case _ : State.reset.billsFit => simp [State.billsFit, lists_reset]
  case _ : State.reset.slotsFit => exact ⟨le_rfl, Nat.zero_le _⟩
  case _ : State.reset.moneyFits => simp [State.moneyFits, lists_reset]
  case _ : State.reset.waitersSound => simp [State.waitersSound, lists_reset]
  case _ : State.reset.accountsSound => simp [State.accountsSound, lists_reset]

end Sys2Proof.Machine.InOut
end

-- SEND TEXT.
section
namespace Sys2Proof.Machine.InOut

/-! ## SEND TEXT (R45, R124) -/

/-- The text of an order is read where none of its bytes is above 127 (R181). -/
theorem readText_eq_some (text : List Byte) (h : ∀ x ∈ text, x.toNat ≤ 127) :
    readText text = some (text.map (fun b => BitVec.ofNat 7 b.toNat)) := by
  have all : text.all (fun b => b.toNat < 128) = true := by
    simpa using fun x hx => Nat.lt_succ_of_le (h x hx)
  rw [readText, if_pos all]
  rfl

theorem readText_eq_none (text : List Byte) (h : ∃ x ∈ text, 127 < x.toNat) : readText text = none := by
  obtain ⟨x, hx, high⟩ := h
  have some_high : ¬ (text.all (fun b => b.toNat < 128) = true) := by
    simp only [List.all_eq_true, decide_eq_true_eq, not_forall]
    exact ⟨x, hx, by omega⟩
  rw [readText, if_neg some_high]

theorem toNat_length (text : List Byte) (h : text.length ≤ 237) : (BitVec.ofNat 8 text.length).toNat = text.length := by
  rw [BitVec.toNat_ofNat]; exact Nat.mod_eq_of_lt (by omega)

/-- A text of at most 192 characters is read with the session's number (R124). -/
theorem readSend_eq_some (n1 n0 : Byte) (text : List Byte) (short : text.length ≤ 192) (low : ∀ x ∈ text, x.toNat ≤ 127) :
    readSend ([n1, n0, BitVec.ofNat 8 text.length] ++ text) =
      some (beNat [n1, n0], text.map (fun b => BitVec.ofNat 7 b.toNat)) := by
  simp only [readSend, List.cons_append, List.nil_append, readBoundedText, toNat_length text (by omega), short, and_self,
    if_true, readText_eq_some text low, Option.map_some]

theorem readSend_eq_none (n1 n0 : Byte) (text : List Byte) (fits : text.length ≤ 237)
    (h : 192 < text.length ∨ ∃ x ∈ text, 127 < x.toNat) :
    readSend ([n1, n0, BitVec.ofNat 8 text.length] ++ text) = none := by
  simp only [readSend, List.cons_append, List.nil_append, readBoundedText, toNat_length text fits, true_and,
    Option.map_eq_none_iff]
  rcases h with long | high
  · exact if_neg (by omega)
  · rw [readText_eq_none text high, ite_self]

/-- A text for a number that names no session, or a text it cannot carry, is answered BAD VALUE (R181). -/
theorem orderSendText_bad (n1 n0 : Byte) (text : List Byte) (s : State) (fits : text.length ≤ 237)
    (h : beNat [n1, n0] = 0 ∨ 192 < text.length ∨ ∃ x ∈ text, 127 < x.toNat) :
    orderSendText ([n1, n0, BitVec.ofNat 8 text.length] ++ text) s = s.refuse 0x28#8 .badValue := by
  by_cases bad : 192 < text.length ∨ ∃ x ∈ text, 127 < x.toNat
  · simp only [orderSendText, readSend_eq_none n1 n0 text fits bad]
  · have zero := h.resolve_right bad
    simp only [not_or, not_exists, not_and, Nat.not_lt] at bad
    simp only [orderSendText, readSend_eq_some n1 n0 text bad.1 bad.2, zero, if_true]

/-- The judgement of a text that joins the queue, on a state that has heard the order (R45). -/
theorem sendHostText_room (s : State) (p : Port) (text : List Code)
    (h : text = [] ∨ (s.line p).output.length + text.length ≤ 192) :
    s.heard.sendHostText p text = ({ s with lines := s.lines.set p { s.line p with
      output := (s.line p).output ++ text.map (⟨·, none⟩) } } : State).replied 0x28#8 .done [] := by
  have e : s.heard.line p = s.line p := rfl
  simp only [State.sendHostText, e, h, if_true]
  rfl

theorem sendHostText_full (s : State) (p : Port) (text : List Code) (h : text ≠ [])
    (h' : 192 < (s.line p).output.length + text.length) :
    s.heard.sendHostText p text = ({ s with lines := s.lines.set p { s.line p with drainWanted := true } } : State).replied
      0x28#8 .full [] := by
  have e : s.heard.line p = s.line p := rfl
  have full : ¬ (text = [] ∨ (s.line p).output.length + text.length ≤ 192) := by simp [h, h']
  simp only [State.sendHostText, e, full, if_false]
  rfl

/-- Settles O49: the order is read, the session is found, and the text is judged against the queue. -/
theorem sendTextJoinsTheQueue : Obligations.SendTextJoinsTheQueue := by
  intro s n1 n0 text n body ready hn fits hbody
  subst hn hbody
  have run : exec (.sendText ([n1, n0, BitVec.ofNat 8 text.length] ++ text)) s =
      .next (orderSendText ([n1, n0, BitVec.ofNat 8 text.length] ++ text) s.heard) :=
    congrArg _ (s.takeOrder_ready _ _ _ ready)
  simp only [run]
  refine ⟨fun bad => ?_, fun named short low => ?_⟩
  · rw [orderSendText_bad n1 n0 text _ fits bad, State.refuse_heard]
  have find : s.heard.findSession (beNat [n1, n0]) = s.findSession (beNat [n1, n0]) := rfl
  simp only [orderSendText, readSend_eq_some n1 n0 text short low, named, if_false, find]
  refine ⟨fun unknown => ?_, fun x known held => ?_, fun x p known taken bound => ?_⟩
  · simp only [unknown, State.refuse_heard]
  · cases bound : x.boundLine <;> simp only [known, bound, held, if_true, State.refuse_heard]
  simp only [known, bound, taken, if_false]
  refine ⟨fun room => ?_, fun empty => ?_, fun some_text full => ?_⟩
  · rw [sendHostText_room s p _ (.inr (by simpa using room)), List.map_map]
    rfl
  · subst empty
    rw [sendHostText_room s p (List.map _ []) (.inl rfl)]
    simp only [List.map_nil, List.append_nil]
    exact congrArg (fun t => Host.Outcome.next (t.replied 0x28#8 .done [])) (s.setLine_line p)
  · rw [sendHostText_full s p _ (by simpa using some_text) (by simpa using full)]

end Sys2Proof.Machine.InOut
end

-- The assembly of one character.
section
namespace Sys2Proof.Machine.InOut

/-! ## One character of assembly (R27–R35): an equation per row of the tables -/

variable (q : Partial) (a : AssemblySettings) (mask : Bool) (c : Code)

theorem assemble_cr : q.assemble a mask 13#7 = q.atReturn a := by
  simp only [Partial.assemble, if_true]

theorem assemble_erase (h : c = 8#7 ∨ c = 127#7) : q.assemble a mask c = q.erase := by
  rcases h with rfl | rfl <;> exact (if_neg (by decide)).trans (if_pos (by decide))

theorem assemble_can : q.assemble a mask 24#7 = ⟨{}, [94#7, 88#7, 13#7, 10#7], false, none⟩ :=
  (if_neg (by decide)).trans ((if_neg (by decide)).trans (if_pos rfl))

theorem assemble_control (low : c.toNat < 32) (bs : c ≠ 8#7) (tab : c ≠ 9#7) (cr : c ≠ 13#7) (can : c ≠ 24#7) :
    q.assemble a mask c = ⟨q, [], false, none⟩ := by
  have del : c ≠ 127#7 := by rintro rfl; exact absurd low (by decide)
  simp only [Partial.assemble, cr, bs, del, can, tab, low, or_self, if_false, ne_eq, not_false_eq_true, and_self, if_true]

theorem separates_iff : q.separates a = true ↔ a.marking = true ∧ q.marks.length < 8 := by
  simp [Partial.separates, Config.maxMarks]

theorem echoOf_eq : echoOf mask q c = if mask = true ∧ q.marks ≠ [] then 88#7 else c := by
  simp [echoOf, maskCode]

/-- The separator sets the latch, any other graphic character or TAB would be stored (R32). -/
theorem assemble_graphic (h : (32 ≤ c.toNat ∧ c.toNat ≤ 126) ∨ c = 9#7) :
    q.assemble a mask c =
      if a.marking = true ∧ q.marks.length < 8 ∧ c = a.separator ∧ q.latch = false then
        ⟨{ q with latch := true }, [if mask = true ∧ q.marks ≠ [] then 88#7 else c], false, none⟩
      else q.store a mask c := by
  have other : c ≠ 13#7 ∧ ¬ (c = 8#7 ∨ c = 127#7) ∧ c ≠ 24#7 ∧ ¬ (c ≠ 9#7 ∧ c.toNat < 32) := by
    rcases h with ⟨low, high⟩ | rfl
    · refine ⟨?_, ?_, ?_, by omega⟩
      · rintro rfl; exact absurd low (by decide)
      · rintro (rfl | rfl)
        · exact absurd low (by decide)
        · exact absurd high (by decide)
      · rintro rfl; exact absurd low (by decide)
    · decide
  obtain ⟨cr, del, can, low⟩ := other
  rw [Partial.assemble, if_neg cr, if_neg del, if_neg can, if_neg low]
  simp only [separates_iff, and_assoc, echoOf_eq]

theorem room_eq : a.room = if a.mode = .line then 128 else a.countN := by
  unfold AssemblySettings.room
  cases a.mode <;> rfl

theorem statusAtReturn_eq :
    a.statusAtReturn q = if a.mode = .line then if q.lengthRefusal then .full else .complete
      else if q.lengthRefusal then .long else if q.buffer.length = a.countN then .exact else .short := by
  unfold AssemblySettings.statusAtReturn
  cases a.mode <;> rfl

/-- The three outcomes of an erase (R34). -/
theorem erase_latch (h : q.latch = true) : q.erase = ⟨{ q with latch := false }, [8#7, 32#7, 8#7], false, none⟩ := by
  rw [Partial.erase, if_pos h]

theorem erase_stored (h : q.latch = false) (stored : q.buffer ≠ []) :
    q.erase = ⟨{ q with buffer := q.buffer.dropLast, marks := q.marks.filter (· ≠ q.buffer.length - 1) },
      [8#7, 32#7, 8#7], false, none⟩ := by
  rw [Partial.erase, if_neg (by simp [h]), if_neg stored]

theorem erase_empty (h : q.latch = false) (empty : q.buffer = []) : q.erase = ⟨q, [], true, none⟩ := by
  rw [Partial.erase, if_neg (by simp [h]), if_pos empty]

/-- What ends at a CR (R30, R31, R33). -/
theorem atReturn_fields :
    (q.atReturn a).echo = [13#7, 10#7] ∧ (q.atReturn a).bell = false ∧ (q.atReturn a).rest.buffer = q.buffer
      ∧ (q.atReturn a).rest.marks = (if a.marking = true ∧ q.latch = true then q.marks ++ [q.buffer.length] else q.marks)
      ∧ (q.atReturn a).ended = some (a.statusAtReturn q) := by
  by_cases h : a.marking = true ∧ q.latch = true
  · simp [Partial.atReturn, h]
  · have h' : ¬ ((a.marking && q.latch) = true) := by simpa using h
    simp only [Partial.atReturn, if_neg h, if_neg h', and_self]

theorem store_refused (full : a.room ≤ q.buffer.length) :
    q.store a mask c = ⟨{ q with lengthRefusal := true }, [], true, none⟩ := by
  rw [Partial.store, if_pos full]

/-- A stored character, with the marks `ms` after it (R30–R32). -/
theorem store_stored (free : q.buffer.length < a.room) (ms : List Nat)
    (hms : ms = if a.marking = true ∧ q.marks.length < 8 ∧ q.latch = true ∧ c ≠ a.separator then
      q.marks ++ [q.buffer.length] else q.marks) :
    q.store a mask c =
      ⟨⟨q.buffer ++ [c], ms, false, q.lengthRefusal⟩, [if mask = true ∧ ms ≠ [] then 88#7 else c], false,
        if a.mode = .count ∧ a.endAtCount = true ∧ q.buffer.length + 1 = a.countN then some .exact else none⟩ := by
  have marked : (q.separates a && q.latch && c != a.separator) = true ↔
      a.marking = true ∧ q.marks.length < 8 ∧ q.latch = true ∧ c ≠ a.separator := by
    simp [Bool.and_eq_true, separates_iff, and_assoc]
  have marks : (if (q.separates a && q.latch && c != a.separator) = true then q.marks ++ [q.buffer.length] else q.marks) = ms := by
    simp only [marked, hms]
  simp only [Partial.store, if_neg (Nat.not_le.mpr free), echoOf_eq, marks, List.length_append, List.length_singleton]

/-- Settles O16: the rows of the tables, each by its equation. -/
theorem assemblyFollowsTheTables : Obligations.AssemblyFollowsTheTables := by
  intro q a mask c room hroom
  rw [← room_eq] at hroom
  subst hroom
  refine ⟨?cr, ?erase, ?can, fun low bs tab cr can => assemble_control q a mask c low bs tab cr can, ?graphic⟩
  case cr =>
    rintro rfl
    obtain ⟨echo, bell, buffer, marks, ended⟩ := atReturn_fields q a
    rw [assemble_cr]
    exact ⟨echo, bell, buffer, marks, by rw [ended, statusAtReturn_eq]⟩
  case erase =>
    intro h
    rw [assemble_erase q a mask c h]
    exact ⟨erase_latch q, erase_stored q, erase_empty q⟩
  case can =>
    rintro rfl
    exact assemble_can q a mask
  case graphic =>
    intro h
    rw [assemble_graphic q a mask c h]
    refine ⟨fun sep => if_pos sep, fun nosep => ?_⟩
    rw [if_neg nosep]
    exact ⟨store_refused q a mask c, store_stored q a mask c⟩

end Sys2Proof.Machine.InOut
end

-- What a received character meets: lines, signs of life, and what deals with a character.
section
namespace Sys2Proof.Machine.InOut

/-! ## A line written twice -/

/-- Of two records written on one line the later stays. -/
@[simp] theorem setLine_setLine (s : State) (p : Port) (l k : Line) : (s.setLine p l).setLine p k = s.setLine p k := by
  simp [State.setLine]

/-- What was assembled is echoed on the line's output queue (R28). -/
theorem sendEcho_assembled (s : State) (p : Port) (on : Bool) (q : Partial) (a : AssemblySettings) (mask : Bool) (c : Code) (l : Line) :
    (s.setLine p l).sendEcho p on (q.assemble a mask c) =
      s.setLine p { l with output := l.echoed ((q.assemble a mask c).sent on) } := by
  rw [State.sendEcho_eq _ _ _ _ (Partial.assemble_bell q a mask c), setLine_setLine, State.line_setLine_same]

/-! ## Signs of life (R26, R115) -/

/-- A session after a sign of life. -/
def refresh (x : Session) : Session := if x.state = .open then { x with idle := 0, idleWarned := false } else x

theorem refresh_number (x : Session) : (refresh x).number = x.number := by
  unfold refresh
  split <;> rfl

theorem refresh_state (x : Session) : (refresh x).state = x.state := by
  unfold refresh
  split <;> rfl

theorem refresh_open {x : Session} (h : x.state = .open) : refresh x = { x with idle := 0, idleWarned := false } := if_pos h

theorem refresh_of_not_open {x : Session} (h : x.state ≠ .open) : refresh x = x := if_neg h

/-- The session records after a sign of life on a line that `h` holds. -/
def lively (h : Holder) (xs : List Session) : List Session :=
  match h with
  | .session n => changeFirst (fun x => x.number == n) refresh xs
  | .dialogue _ => xs
  | .none => xs

theorem signalLife_eq (s : State) (p : Port) : s.signalLife p = { s with sessions := lively (s.line p).holder s.sessions } := by
  unfold State.signalLife
  cases (s.line p).holder <;> rfl

/-- A change that fixes the thing it finds changes nothing. -/
theorem changeFirst_fixed {α : Type} (is : α → Bool) (f : α → α) (xs : List α) (h : ∀ x, xs.find? is = some x → f x = x) :
    changeFirst is f xs = xs := by
  induction xs with
  | nil => rfl
  | cons x xs ih =>
    by_cases hx : is x = true
    · simp only [changeFirst, hx, if_true, h x (by simp [hx])]
    · simp only [changeFirst, hx, Bool.false_eq_true, if_false, ih fun y hy => h y (by simpa [hx] using hy)]

/-- The state after a character or a break has reached the line: what was timed of a space is over, and the session that holds the
line has a sign of life. -/
def received (s : State) (p : Port) : State :=
  { s with lines := s.lines.set p { s.line p with space := .none }, sessions := lively (s.line p).holder s.sessions }

section
variable (s : State) (p : Port)

theorem received_eq : (s.mapLine p (fun l => { l with space := .none })).signalLife p = received s p := by
  rw [signalLife_eq, State.line_mapLine_same]
  rfl

@[simp] theorem received_line : (received s p).line p = { s.line p with space := .none } := by
  simp [received, State.line]

theorem received_setLine (l : Line) : (received s p).setLine p l =
    { s with lines := s.lines.set p l, sessions := lively (s.line p).holder s.sessions } := by
  simp [received, State.setLine]

variable {s p} {n : Nat} {x : Session}

theorem findSession_lively (h : (s.line p).holder = .session n) (k : s.findSession n = some x) :
    (lively (s.line p).holder s.sessions).find? (fun y => y.number == n) = some (refresh x) := by
  have e := s.findSession_mapSession n refresh x k (refresh_number x)
  rw [h]
  exact e

theorem findSession_lively_ne (h : (s.line p).holder = .session n) (m : Nat) (hm : m ≠ n) :
    (lively (s.line p).holder s.sessions).find? (fun y => y.number == m) = s.findSession m := by
  have e := s.findSession_mapSession_ne n m refresh refresh_number hm
  rw [h]
  exact e

/-- Off an OPEN session a sign of life changes no session record. -/
theorem lively_of_not_open (h : ∀ n x, (s.line p).holder = .session n → s.findSession n = some x → x.state ≠ .open) :
    lively (s.line p).holder s.sessions = s.sessions := by
  cases held : (s.line p).holder with
  | none | dialogue d => rfl
  | session n => exact changeFirst_fixed _ _ _ fun x found => refresh_of_not_open (h n x held found)

theorem lively_of_no_session (h : ∀ n, (s.line p).holder ≠ .session n) : lively (s.line p).holder s.sessions = s.sessions :=
  lively_of_not_open fun n _ held => absurd held (h n)

end

/-! ## What deals with a character (R26) -/

/-- A character received without error in CONNECTED is dealt with by what holds the line. -/
theorem receive_accepted (s : State) (p : Port) (c : Code) (bit : Bool) (hs : (s.line p).state = .connected)
    (ha : (s.line p).accepts c bit) : exec (.characterReceived p c bit) s = .next ((received s p).deliver p c) := by
  have clean := Line.isError_of_accepts (s.line p) c bit ha
  have e : s.receive p c bit false = (received s p).deliver p c := by
    simp only [State.receive, hs, clean, Bool.false_eq_true, if_false, received_eq]
  exact congrArg _ e

section
variable {s : State} {p : Port} {c : Code} {d : Dialogue} {n : Nat} {x : Session}

theorem deliver_greeting (h : (s.line p).holder = .dialogue d) (g : d.phase = .greeting) : s.deliver p c = s := by
  simp only [State.deliver, h, g]

theorem deliver_entry (h : (s.line p).holder = .dialogue d) (g : d.phase = .entry) : s.deliver p c = s.assembleSignOn p d c := by
  simp only [State.deliver, h, g]

theorem deliver_waiting (h : (s.line p).holder = .dialogue d) (g : d.phase = .waiting) : s.deliver p c = s.sendBel p := by
  simp only [State.deliver, h, g]

theorem deliver_stalled (h : (s.line p).holder = .session n) (k : s.findSession n = some x) (g : x.state = .stalled) :
    s.deliver p c = s.sendBel p := by
  simp only [State.deliver, h, k, g]

theorem deliver_behind_record {r : InputRecord} (h : (s.line p).holder = .session n) (k : s.findSession n = some x)
    (g : x.state = .open) (w : (s.line p).waitingRecord = some r) : s.deliver p c = s.sendBel p := by
  simp only [State.deliver, h, k, g, w, Option.isSome_some, if_true]

theorem deliver_open (h : s.assembles p n x) : s.deliver p c = s.assembleInput p n c := by
  obtain ⟨_, held, found, isOpen, free⟩ := h
  simp only [State.deliver, held, found, isOpen, free, Option.isSome_none, Bool.false_eq_true, if_false]

/-- A session that takes characters still does with the character received. -/
theorem assembles_received (h : s.assembles p n x) : (received s p).assembles p n (refresh x) := by
  obtain ⟨connected, held, found, isOpen, free⟩ := h
  rw [State.assembles, received_line]
  exact ⟨connected, held, findSession_lively held found, (refresh_state x).trans isOpen, free⟩

end

/-! ## Assembly on a line (R36, R37, R48) -/

theorem signOnSettings_eq : signOnSettings = ⟨.line, 80, false, true, 47#7⟩ := rfl

/-- In LINE mode nothing but a CR ends a record (R30). -/
theorem assemble_ended_none (q : Partial) (a : AssemblySettings) (mask : Bool) (c : Code) (line : a.mode = .line) (h : c ≠ 13#7) :
    (q.assemble a mask c).ended = none := by
  have other : a.mode ≠ .count := by simp [line]
  rw [Partial.assemble, if_neg h]
  unfold Partial.erase Partial.store
  split_ifs <;> simp [other]

/-- A character in ENTRY that is no CR (R36). -/
theorem assembleSignOn_goes_on (s : State) (p : Port) (d : Dialogue) (c : Code) (r : Assembled)
    (hr : r = (s.line p).partialRecord.assemble signOnSettings true c) (h : c ≠ 13#7) :
    s.assembleSignOn p d c =
      s.setLine p { s.line p with partialRecord := r.rest, output := (s.line p).echoed (r.sent true) } := by
  have goes_on : r.ended = none := by rw [hr]; exact assemble_ended_none _ _ _ _ rfl h
  unfold State.assembleSignOn
  simp only [← hr, goes_on]
  rw [hr, sendEcho_assembled]
  rfl

/-- A character of a session that does not end the record (R37, R48). -/
theorem assembleInput_goes_on (s : State) (p : Port) (n : Nat) (c : Code) (r : Assembled)
    (hr : r = (s.line p).partialRecord.assemble (s.line p).settings false c) (h : r.ended = none) :
    s.assembleInput p n c = s.setLine p { s.line p with
      partialRecord := r.rest, output := (s.line p).echoed (r.sent (s.line p).echo),
      settings := if c = 24#7 then (s.line p).pendingSettings.getD (s.line p).settings else (s.line p).settings,
      pendingSettings := if c = 24#7 then none else (s.line p).pendingSettings } := by
  unfold State.assembleInput
  simp only [← hr, h]
  rw [hr, sendEcho_assembled]
  by_cases kill : c = 24#7
  · simp only [kill, if_true, State.mapLine, State.line_setLine_same, setLine_setLine]
    rfl
  · simp only [kill, if_false]
    rfl

/-- A character of a session that ends the record (R37, R48). -/
theorem assembleInput_ends (s : State) (p : Port) (n : Nat) (c : Code) (r : Assembled) (st : RecordStatus)
    (hr : r = (s.line p).partialRecord.assemble (s.line p).settings false c) (h : r.ended = some st) :
    s.assembleInput p n c = (s.setLine p { s.line p with
      partialRecord := {}, output := (s.line p).echoed (r.sent (s.line p).echo),
      settings := (s.line p).pendingSettings.getD (s.line p).settings, pendingSettings := none }).offerRecord p n
        ⟨st, false, r.rest.marks, r.rest.buffer⟩ := by
  unfold State.assembleInput
  simp only [← hr, h]
  rw [hr, sendEcho_assembled]
  simp only [State.mapLine, State.line_setLine_same, setLine_setLine]
  rfl

/-- A completed record where there is room, and where there is none (R37). -/
theorem offerRecord_room (s : State) (p : Port) (n : Nat) (r : InputRecord) (h : s.hasRoom) :
    s.offerRecord p n r = { s with link := { s.link with reports := s.link.reports ++ [.input n p r] } } := if_pos h

theorem offerRecord_waits (s : State) (p : Port) (n : Nat) (r : InputRecord) (h : ¬ s.hasRoom) :
    s.offerRecord p n r =
      { s.setLine p { s.line p with waitingRecord := some r } with inputWait := s.inputWait ++ [p] } := if_neg h

/-- BEL on a line (R26, R28). -/
theorem sendBel_eq (s : State) (p : Port) : s.sendBel p = s.setLine p { s.line p with output := (s.line p).echoed [7#7] } :=
  State.appendEcho_eq s p [7#7]

end Sys2Proof.Machine.InOut
end

-- Characters that are assembled, refused or discarded.
section
namespace Sys2Proof.Machine.InOut

/-! ## Assembled characters (R26, R36, R37) -/

section
variable {s : State} {p : Port} {c : Code} {bit : Bool} {r : Assembled} {n : Nat} {x : Session}

theorem character_in_entry {d : Dialogue} (hs : (s.line p).state = .connected) (hd : (s.line p).holder = .dialogue d)
    (he : d.phase = .entry) (ha : (s.line p).accepts c bit)
    (hr : r = (s.line p).partialRecord.assemble signOnSettings true c) (h : c ≠ 13#7) :
    exec (.characterReceived p c bit) s = .next { s with
      lines := s.lines.set p { s.line p with
        space := .none, partialRecord := r.rest, output := (s.line p).echoed (r.sent true) } } := by
  have dialogue : ((received s p).line p).holder = .dialogue d := by rw [received_line]; exact hd
  have record : r = ((received s p).line p).partialRecord.assemble signOnSettings true c := by rw [received_line]; exact hr
  rw [receive_accepted s p c bit hs ha, deliver_entry dialogue he, assembleSignOn_goes_on _ p d c r record h,
    received_line, received_setLine, hd]
  rfl

/-- A character on an OPEN session with no waiting record is assembled with the session's sign of life. -/
theorem character_in_session (h : s.assembles p n x) (ha : (s.line p).accepts c bit) :
    exec (.characterReceived p c bit) s = .next ((received s p).assembleInput p n c) := by
  rw [receive_accepted s p c bit h.1 ha, deliver_open (assembles_received h)]

theorem findSession_assembles (h : s.assembles p n x) {t : State} (ht : t.sessions = lively (s.line p).holder s.sessions) :
    t.findSession n = some { x with idle := 0, idleWarned := false } ∧ ∀ m, m ≠ n → t.findSession m = s.findSession m := by
  obtain ⟨_, held, found, isOpen, _⟩ := h
  rw [← refresh_open isOpen]
  unfold State.findSession
  rw [ht]
  exact ⟨findSession_lively held found, findSession_lively_ne held⟩

/-- The record goes on (R37, R48). -/
theorem character_goes_on (h : s.assembles p n x) (ha : (s.line p).accepts c bit)
    (hr : r = (s.line p).partialRecord.assemble (s.line p).settings false c) (ended : r.ended = none) :
    exec (.characterReceived p c bit) s = .next { s with
      lines := s.lines.set p { s.line p with
        space := .none, partialRecord := r.rest, output := (s.line p).echoed (r.sent (s.line p).echo),
        settings := if c = 24#7 then (s.line p).pendingSettings.getD (s.line p).settings else (s.line p).settings,
        pendingSettings := if c = 24#7 then none else (s.line p).pendingSettings },
      sessions := lively (s.line p).holder s.sessions } := by
  have record : r = ((received s p).line p).partialRecord.assemble ((received s p).line p).settings false c := by
    rw [received_line]; exact hr
  rw [character_in_session h ha, assembleInput_goes_on _ p n c r record ended, received_line, received_setLine]
  rfl

/-- The state with a record of the line ended and not yet offered to the host (R28, R48). -/
def recordEnded (s : State) (p : Port) (r : Assembled) : State :=
  { s with
    lines := s.lines.set p { s.line p with
      space := .none, partialRecord := {}, output := (s.line p).echoed (r.sent (s.line p).echo),
      settings := (s.line p).pendingSettings.getD (s.line p).settings, pendingSettings := none },
    sessions := lively (s.line p).holder s.sessions }

/-- The record ends (R37, R48). -/
theorem character_ends {st : RecordStatus} (h : s.assembles p n x) (ha : (s.line p).accepts c bit)
    (hr : r = (s.line p).partialRecord.assemble (s.line p).settings false c) (ended : r.ended = some st) :
    exec (.characterReceived p c bit) s =
      .next ((recordEnded s p r).offerRecord p n ⟨st, false, r.rest.marks, r.rest.buffer⟩) := by
  have record : r = ((received s p).line p).partialRecord.assemble ((received s p).line p).settings false c := by
    rw [received_line]; exact hr
  rw [character_in_session h ha, assembleInput_ends _ p n c r st record ended, received_line, received_setLine]
  rfl

end

/-- Settles O17: ENTRY, a record that goes on and a record that ends. -/
theorem characterIsAssembled : Obligations.CharacterIsAssembled := by
  refine ⟨?entry, ?goes_on, ?ends⟩
  case entry =>
    intro s p d c bit r hs hd he ha hr h
    rw [← signOnSettings_eq] at hr
    exact ⟨by rw [hr]; exact assemble_ended_none _ _ _ _ rfl h, character_in_entry hs hd he ha hr h⟩
  case goes_on =>
    intro s p n x c bit r h ha hr ended
    exact ⟨_, character_goes_on h ha hr ended, rfl, findSession_assembles h rfl⟩
  case ends =>
    intro s p n x c bit r st record h ha hr ended hrecord
    subst hrecord
    refine ⟨_, character_ends h ha hr ended, ?_⟩
    by_cases room : s.hasRoom
    · rw [offerRecord_room (recordEnded s p r) p n _ room]
      obtain ⟨same, others⟩ := findSession_assembles h (t := { recordEnded s p r with
        link := { s.link with reports := s.link.reports ++ [.input n p ⟨st, false, r.rest.marks, r.rest.buffer⟩] } }) rfl
      exact ⟨same, others, fun _ => rfl, fun full => absurd room full⟩
    · rw [offerRecord_waits (recordEnded s p r) p n _ room]
      refine ⟨(findSession_assembles h rfl).1, (findSession_assembles h rfl).2, fun free => absurd free room, fun _ => ?_⟩
      simp [recordEnded, State.setLine, State.line]

/-! ## Characters that nothing takes (R26) -/

/-- BEL on a line whose character was received. -/
theorem received_sendBel (s : State) (p : Port) : (received s p).sendBel p = { s with
    lines := s.lines.set p { s.line p with space := .none, output := (s.line p).echoed [7#7] },
    sessions := lively (s.line p).holder s.sessions } := by
  rw [sendBel_eq, received_line, received_setLine]
  rfl

/-- With no OPEN session on the line, a received character changes the line record alone. -/
theorem received_of_not_open (s : State) (p : Port)
    (h : ∀ n x, (s.line p).holder = .session n → s.findSession n = some x → x.state ≠ .open) :
    received s p = { s with lines := s.lines.set p { s.line p with space := .none } } := by
  rw [received, lively_of_not_open h]

theorem character_in_dropping (s : State) (p : Port) (c : Code) (bit framing : Bool) (h : (s.line p).state = .dropping) :
    s.receive p c bit framing = s.mapLine p (fun l => { l with space := .none }) := by
  simp only [State.receive, h]

/-- Settles O20: by what holds the line. -/
theorem charactersNotTaken : Obligations.CharactersNotTaken := by
  intro s p c bit
  refine ⟨fun connected ha => ⟨fun d hd greeting => ?_, ?_, fun n x r held found isOpen waits => ?_⟩, ?_⟩
  · have hd' : ((received s p).line p).holder = .dialogue d := by rw [received_line]; exact hd
    rw [receive_accepted s p c bit connected ha, deliver_greeting hd' greeting, received_of_not_open s p (by simp [hd])]
  · intro h
    have bel : (received s p).deliver p c = (received s p).sendBel p := by
      rcases h with ⟨d, hd, waiting⟩ | ⟨n, x, held, found, stalled⟩
      · exact deliver_waiting (by rw [received_line]; exact hd) waiting
      · exact deliver_stalled (by rw [received_line]; exact held) (findSession_lively held found)
          ((refresh_state x).trans stalled)
    have still : lively (s.line p).holder s.sessions = s.sessions := by
      refine lively_of_not_open fun m y hm hy => ?_
      rcases h with ⟨d, hd, _⟩ | ⟨n, x, held, found, stalled⟩
      · simp [hd] at hm
      · cases held.symm.trans hm
        cases found.symm.trans hy
        simp [stalled]
    refine ⟨_, receive_accepted s p c bit connected ha, ?_⟩
    rw [bel, received_sendBel, still]
    exact ⟨rfl, fun _ => rfl⟩
  · have bel : (received s p).deliver p c = (received s p).sendBel p :=
      deliver_behind_record (by rw [received_line]; exact held) (findSession_lively held found)
        ((refresh_state x).trans isOpen) (by rw [received_line]; exact waits)
    refine ⟨_, receive_accepted s p c bit connected ha, ?_⟩
    rw [bel, received_sendBel, ← refresh_open isOpen]
    exact ⟨rfl, findSession_lively held found⟩
  · rintro dropping i (rfl | rfl) <;> exact congrArg _ (character_in_dropping s p c bit _ dropping)

end Sys2Proof.Machine.InOut
end

-- Error characters below the noise limit.
section
namespace Sys2Proof.Machine.InOut

/-! ## Error characters (R25, R53) -/

/-- The line sees the command's character as an error character: a framing error, or a parity error under parity check (R25). -/
def errs (l : Line) (p : Port) (c : Code) (bit : Bool) (i : Instr) : Prop :=
  i = .heldCharacterReceived p c bit ∨ (i = .characterReceived p c bit ∧ l.parityCheck = true
    ∧ (l.parity = some .even ∧ onesOf c bit % 2 = 1 ∨ l.parity = some .odd ∧ onesOf c bit % 2 = 0))

/-- What becomes of an error character that was counted: the call has ended, or it is substituted or goes no further (R25). -/
def substituted (s : State) (p : Port) (ended substitute : Bool) : State :=
  if ended then s else if substitute then s.deliver p 42#7 else s

theorem substituted_on (s : State) (p : Port) {substitute : Bool} (h : substitute = true) :
    substituted s p false substitute = s.deliver p 42#7 := by
  rw [h]
  rfl

theorem substituted_off (s : State) (p : Port) {substitute : Bool} (h : substitute = false) :
    substituted s p false substitute = s := by
  rw [h]
  rfl

theorem isError_of_errs {l : Line} {c : Code} {bit : Bool}
    (check : l.parityCheck = true)
    (h : l.parity = some .even ∧ onesOf c bit % 2 = 1 ∨ l.parity = some .odd ∧ onesOf c bit % 2 = 0) :
    l.isError c bit false = true := by
  obtain ⟨even, odd⟩ := parityError_eq_onesOf c bit
  have wrong (q : Parity) (e : l.parity = some q) (w : parityError q c bit ≠ false) : l.isError c bit false = true := by
    simpa [Line.isError, check, e] using w
  rcases h with ⟨e, w⟩ | ⟨e, w⟩
  · exact wrong .even e fun k => by have := even.mp k; omega
  · exact wrong .odd e fun k => by have := odd.mp k; omega

/-- An error character in CONNECTED is counted, and then substituted or discarded (R25). -/
theorem receive_error (s : State) (p : Port) (c : Code) (bit : Bool) (i : Instr) (h : errs (s.line p) p c bit i)
    (connected : (s.line p).state = .connected) :
    exec i s = .next (substituted ((received s p).countError p).1 p ((received s p).countError p).2 (s.line p).substitute) := by
  have e (framing : Bool) (bad : (s.line p).isError c bit framing = true) : s.receive p c bit framing =
      substituted ((received s p).countError p).1 p ((received s p).countError p).2 (s.line p).substitute := by
    simp only [State.receive, connected, bad, if_true, received_eq]
    rcases (received s p).countError p with ⟨t, _ | _⟩ <;> rfl
  rcases h with rfl | ⟨rfl, check, wrong⟩
  · exact congrArg _ (e true (by simp [Line.isError]))
  · exact congrArg _ (e false (isError_of_errs check wrong))

theorem countError_below (s : State) (p : Port) (h : (s.line p).noiseCount + 1 < s.policies.noise.noiseLimit) :
    s.countError p = (s.setLine p { s.line p with noiseCount := (s.line p).noiseCount + 1 }, false) := by
  rw [State.countError, if_neg (by omega)]
  rfl

/-- A character received on a line whose record was changed, but not what holds it. -/
theorem received_setLine_holder (s : State) (p : Port) (l : Line) (h : l.holder = (s.line p).holder) :
    received (s.setLine p l) p = (received s p).setLine p { l with space := .none } := by
  have records : lively ((s.setLine p l).line p).holder (s.setLine p l).sessions = lively (s.line p).holder s.sessions := by
    rw [State.line_setLine_same, h]
    rfl
  rw [received_setLine, received, records, State.line_setLine_same]
  simp [State.setLine]

/-- Settles O18: the count commutes with the reception, and then the character is substituted or goes no further. -/
theorem errorCharacterIsCounted : Obligations.ErrorCharacterIsCounted := by
  intro s p c bit i h connected below
  have below' : ((received s p).line p).noiseCount + 1 < (received s p).policies.noise.noiseLimit := by
    rw [received_line]; exact below
  have run := receive_error s p c bit i h connected
  rw [countError_below _ p below', received_line] at run
  refine ⟨fun on b ha => ?_, fun off => ?_⟩
  · let l : Line := { s.line p with noiseCount := (s.line p).noiseCount + 1 }
    have same : (s.setLine p l).line p = l := State.line_setLine_same s p l
    rw [receive_accepted (s.setLine p l) p 42#7 b (by rw [same]; exact connected) (by rw [same]; exact ha),
      received_setLine_holder s p l rfl, run, substituted_on _ p on]
  · rw [substituted_off _ p off, received_setLine] at run
    exact ⟨_, run, rfl, lively_of_no_session, fun n x held found isOpen => by
      rw [← refresh_open isOpen]; exact findSession_lively held found⟩

end Sys2Proof.Machine.InOut
end

-- Breaks.
section
namespace Sys2Proof.Machine.InOut

/-! ## Breaks (R40, R41, R47) -/

section
variable {s : State} {p : Port} {n : Nat} {x : Session}

/-- A break in CONNECTED, with no space in progress that reached 2 s, acts by what holds the line. -/
theorem breakReceived_acts (connected : (s.line p).state = .connected) (short : (s.line p).space ≠ .longSpace) :
    exec (.breakReceived p) s = .next ((s.setLine p { s.line p with space := .none }).breakActs p) :=
  congrArg _ ((if_neg short).trans (if_pos connected))

theorem breakActs_open (held : (s.line p).holder = .session n) (found : s.findSession n = some x) (isOpen : x.state = .open) :
    s.breakActs p = (s.signalLife p).breakRecord p n := by
  simp only [State.breakActs, held, found, isOpen, if_true]

theorem breakActs_stalled (held : (s.line p).holder = .session n) (found : s.findSession n = some x)
    (stalled : x.state = .stalled) : s.breakActs p = s := by
  have shut : x.state ≠ .open := by simp [stalled]
  simp only [State.breakActs, held, found, if_neg shut]

theorem breakActs_entry {d : Dialogue} (hd : (s.line p).holder = .dialogue d) (entry : d.phase = .entry) :
    s.breakActs p = s.assembleSignOn p d 24#7 := by
  simp only [State.breakActs, hd, entry, if_true]

theorem breakActs_ignored {d : Dialogue} (hd : (s.line p).holder = .dialogue d) (other : d.phase ≠ .entry) :
    s.breakActs p = s := by
  simp only [State.breakActs, hd, if_neg other]

/-- A break in ENTRY is a kill (R41). -/
theorem assembleSignOn_kill (s : State) (p : Port) (d : Dialogue) : s.assembleSignOn p d 24#7 =
    s.setLine p { s.line p with partialRecord := {}, output := (s.line p).echoed [94#7, 88#7, 13#7, 10#7] } := by
  have kill := assemble_can (s.line p).partialRecord signOnSettings true
  exact assembleSignOn_goes_on s p d 24#7 _ kill.symm (by decide)

/-- A line record after a break of its session: nothing is assembled, nothing is to be sent, pending settings are in force. -/
def broken (l : Line) : Line :=
  { l with partialRecord := {}, output := [], unreported := [], fill := 0, settings := l.pendingSettings.getD l.settings,
           pendingSettings := none }

/-- The break record made under settings (R41). -/
def breakRecordOf (a : AssemblySettings) : InputRecord := ⟨if a.mode = .line then .complete else .short, true, [], []⟩

theorem breakRecordOf_eq (a : AssemblySettings) : (⟨a.breakStatus, true, [], []⟩ : InputRecord) = breakRecordOf a := by
  unfold AssemblySettings.breakStatus breakRecordOf
  cases a.mode <;> rfl

/-- A queue's discard that is not to be told (R46, R47). -/
theorem discardOutput_quiet (s : State) (p : Port) (h : (s.line p).drainWanted = false ∨ (s.line p).output = []) :
    s.discardOutput p = s.setLine p { s.line p with output := [], unreported := [], fill := 0 } := by
  by_cases empty : (s.line p).output = []
  · exact if_pos empty
  · have unwanted := h.resolve_right empty
    simp [State.discardOutput, empty, State.drainedTest, State.mapLine, unwanted]

/-- A queue's discard that is told (R46, R47). -/
theorem discardOutput_told (s : State) (p : Port) (n : Nat) (held : (s.line p).holder = .session n)
    (wanted : (s.line p).drainWanted = true) (full : (s.line p).output ≠ []) :
    s.discardOutput p =
      (s.setLine p { s.line p with output := [], unreported := [], fill := 0, drainWanted := false }).queueReport (.drained n p) := by
  simp [State.discardOutput, full, State.drainedTest, State.mapLine, wanted, held]

/-- What becomes of a break record: it takes the place of a waiting one, or goes the way of any record (R41). -/
def offerBreak (s : State) (p : Port) (n : Nat) (r : InputRecord) : State :=
  if (s.line p).waitingRecord.isSome then s.setLine p { s.line p with waitingRecord := some r } else s.offerRecord p n r

theorem line_queueReport (s : State) (r : Report) (p : Port) : (s.queueReport r).line p = s.line p := by
  rw [State.queueReport_eq]
  rfl

/-- A line record with its partial record emptied and pending settings in force (R48). -/
def emptied (l : Line) : Line := { l with partialRecord := {} }.applyPending

/-- The break record goes its way from a state `t` that the discard of the queue leaves. -/
theorem breakRecord_eq (s t : State) (p : Port) (n : Nat)
    (discarded : (s.setLine p (emptied (s.line p))).discardOutput p = t)
    (kept : (t.line p).waitingRecord = (s.line p).waitingRecord) :
    s.breakRecord p n = offerBreak t p n (breakRecordOf (s.line p).settings) := by
  subst discarded
  unfold offerBreak
  rw [kept, ← breakRecordOf_eq]
  rfl

theorem breakRecord_quiet (s : State) (p : Port) (n : Nat) (h : (s.line p).drainWanted = false ∨ (s.line p).output = []) :
    s.breakRecord p n = offerBreak (s.setLine p (broken (s.line p))) p n (breakRecordOf (s.line p).settings) := by
  have quiet := discardOutput_quiet (s.setLine p (emptied (s.line p))) p (by rw [State.line_setLine_same]; exact h)
  rw [setLine_setLine, State.line_setLine_same] at quiet
  exact breakRecord_eq s _ p n quiet (by rw [State.line_setLine_same]; rfl)

theorem breakRecord_told (s : State) (p : Port) (n : Nat) (held : (s.line p).holder = .session n)
    (wanted : (s.line p).drainWanted = true) (full : (s.line p).output ≠ []) :
    s.breakRecord p n = offerBreak ((s.setLine p { broken (s.line p) with drainWanted := false }).queueReport (.drained n p)) p n
      (breakRecordOf (s.line p).settings) := by
  have told := discardOutput_told (s.setLine p (emptied (s.line p))) p n (by rw [State.line_setLine_same]; exact held)
    (by rw [State.line_setLine_same]; exact wanted) (by rw [State.line_setLine_same]; exact full)
  rw [setLine_setLine, State.line_setLine_same] at told
  refine breakRecord_eq s _ p n told ?_
  rw [line_queueReport, State.line_setLine_same]
  rfl

/-- The room for the record behind one more report (R37, R46). -/
theorem room_behind_report (k : Link) (r : Report) : (k.reported r).reports.length + 16 ≤ 64 ↔ k.reports.length + 17 ≤ 64 := by
  unfold Link.reported
  split
  · simp
  · next full =>
    change k.reports.length + 16 ≤ 64 ↔ _
    omega

theorem two_reports (k : Link) (r1 r2 : Report) (h : k.reports.length < 64) :
    { k.reported r1 with reports := (k.reported r1).reports ++ [r2] } = { k with reports := k.reports ++ [r1, r2] } := by
  simp [Link.reported, h]

/-- A break on an OPEN session meets the state after a sign of life. -/
theorem breakReceived_open (connected : (s.line p).state = .connected) (short : (s.line p).space ≠ .longSpace)
    (held : (s.line p).holder = .session n) (found : s.findSession n = some x) (isOpen : x.state = .open) :
    exec (.breakReceived p) s = .next ((received s p).breakRecord p n) := by
  rw [breakReceived_acts connected short, breakActs_open (s := s.setLine p _) (by rw [State.line_setLine_same]; exact held) found isOpen]
  exact congrArg (fun t : State => Host.Outcome.next (t.breakRecord p n)) (received_eq s p)

end

/-- What a break record leaves: the line's record changed from `b`, the sessions `xs` and the Link Controller changed from `k`; with
no record waiting it is queued where there is room, and waits at the tail of the list where there is none (R37, R41). -/
def breakOutcome (s : State) (p : Port) (n : Nat) (r : InputRecord) (b : Line) (xs : List Session) (k : Link) (room : Bool) : State :=
  { s with
    lines := s.lines.set p { b with waitingRecord := if b.waitingRecord = none ∧ room = true then none else some r },
    sessions := xs,
    inputWait := if b.waitingRecord = none ∧ room = false then s.inputWait ++ [p] else s.inputWait,
    link := if b.waitingRecord = none ∧ room = true then { k with reports := k.reports ++ [.input n p r] } else k }

theorem breakOutcome_line (s : State) (p : Port) (n : Nat) (r : InputRecord) (b : Line) (xs : List Session) (k : Link) (room : Bool) :
    (breakOutcome s p n r b xs k room).line p =
      { b with waitingRecord := if b.waitingRecord = none ∧ room = true then none else some r } := by
  simp [breakOutcome, State.line]

theorem offerBreak_eq (s : State) (p : Port) (n : Nat) (r : InputRecord) (b : Line) (xs : List Session) (k : Link) (room : Bool)
    (hroom : room = true ↔ s.inputWait = [] ∧ k.reports.length + 16 ≤ 64) :
    offerBreak { s with lines := s.lines.set p b, sessions := xs, link := k } p n r = breakOutcome s p n r b xs k room := by
  let u : State := { s with lines := s.lines.set p b, sessions := xs, link := k }
  have line_u : u.line p = b := by simp [u, State.line]
  have set_u (c : Line) : u.setLine p c = { s with lines := s.lines.set p c, sessions := xs, link := k } := by
    simp [u, State.setLine]
  change offerBreak u p n r = _
  unfold offerBreak
  rw [line_u]
  cases waits : b.waitingRecord with
  | some w =>
    rw [if_pos (by rfl), set_u]
    simp [breakOutcome, waits]
  | none =>
    rw [if_neg (by simp)]
    by_cases free : room = true
    · have kept : { b with waitingRecord := none } = b := by rw [← waits]
      rw [offerRecord_room u p n r (hroom.mp free)]
      simp [breakOutcome, waits, free, kept, u]
    · rw [offerRecord_waits u p n r (fun h => free (hroom.mpr h)), line_u, set_u]
      simp [breakOutcome, waits, free]
      rfl

section
variable {s : State} {p : Port} {n : Nat} {x : Session}

/-! A break on an OPEN session, whole: with a discard that is quiet, and with one that is told. -/

theorem breakReceived_quiet (connected : (s.line p).state = .connected) (short : (s.line p).space ≠ .longSpace)
    (held : (s.line p).holder = .session n) (found : s.findSession n = some x) (isOpen : x.state = .open)
    (quiet : (s.line p).drainWanted = false ∨ (s.line p).output = []) :
    exec (.breakReceived p) s = .next (breakOutcome s p n (breakRecordOf (s.line p).settings)
      (broken { s.line p with space := .none }) (lively (s.line p).holder s.sessions) s.link (decide s.hasRoom)) := by
  rw [breakReceived_open connected short held found isOpen, breakRecord_quiet _ p n (by rw [received_line]; exact quiet),
    received_line, received_setLine]
  exact congrArg _ (offerBreak_eq s p n _ _ _ _ _ decide_eq_true_iff)

theorem breakReceived_told (connected : (s.line p).state = .connected) (short : (s.line p).space ≠ .longSpace)
    (held : (s.line p).holder = .session n) (found : s.findSession n = some x) (isOpen : x.state = .open)
    (wanted : (s.line p).drainWanted = true) (full : (s.line p).output ≠ []) (room : Bool)
    (hroom : room = true ↔ s.inputWait = [] ∧ s.link.reports.length + 17 ≤ 64) :
    exec (.breakReceived p) s = .next (breakOutcome s p n (breakRecordOf (s.line p).settings)
      { broken { s.line p with space := .none } with drainWanted := false } (lively (s.line p).holder s.sessions)
      (s.link.reported (.drained n p)) room) := by
  rw [breakReceived_open connected short held found isOpen, breakRecord_told _ p n (by rw [received_line]; exact held)
    (by rw [received_line]; exact wanted) (by rw [received_line]; exact full), received_line, received_setLine,
    State.queueReport_eq]
  exact congrArg _ (offerBreak_eq s p n _ _ _ _ room (by rw [hroom, room_behind_report]))

end

/-- Settles O21: what holds the line decides; on an OPEN session the discard is quiet or told, and the record goes its way. -/
theorem breakMakesABreakRecord : Obligations.BreakMakesABreakRecord := by
  intro s p l hl
  have line_l : (s.setLine p l).line p = l := State.line_setLine_same s p l
  refine ⟨fun h => ?pending, fun connected short => ⟨?quiet, ?told, ?dialogue, ?stalled⟩⟩
  case pending => exact congrArg (fun k => Host.Outcome.next (s.setLine p k)) (if_pos h)
  case quiet =>
    intro n x record held found isOpen quiet hrecord
    have run := breakReceived_quiet connected short held found isOpen quiet
    have sameRecord : breakRecordOf (s.line p).settings = record := hrecord.symm
    rw [sameRecord, ← hl] at run
    refine ⟨_, run, ?_, ?_, ?_, ?_, ?_, ?_⟩
    · rw [breakOutcome_line]
      rfl
    · rw [← refresh_open isOpen]
      exact findSession_lively held found
    · rw [breakOutcome_line]
      simp only [decide_eq_true_eq]
      rfl
    · intro free room
      simp [breakOutcome, broken, free, room]
    · intro free room
      simp [breakOutcome, broken, free, room]
    · intro waits
      simp [breakOutcome, broken, waits]
  case told =>
    intro n x record room held found isOpen wanted full hrecord hroom
    have hroom : room = true ↔ s.inputWait = [] ∧ s.link.reports.length + 17 ≤ 64 := by rw [hroom, decide_eq_true_eq]
    have run := breakReceived_told connected short held found isOpen wanted full room hroom
    have sameRecord : breakRecordOf (s.line p).settings = record := hrecord.symm
    rw [sameRecord, ← hl] at run
    refine ⟨_, run, ?_, ?_⟩
    · have both : (if l.waitingRecord = none ∧ room = true then
            { s.link.reported (.drained n p) with reports := (s.link.reported (.drained n p)).reports ++ [.input n p record] }
          else s.link.reported (.drained n p)) =
          if l.waitingRecord = none ∧ room = true then
            { s.link with reports := s.link.reports ++ [.drained n p, .input n p record] }
          else s.link.reported (.drained n p) := by
        refine ite_congr rfl (fun queued => two_reports _ _ _ ?_) fun _ => rfl
        obtain ⟨_, fits⟩ := hroom.mp queued.2
        omega
      rw [← both]
      rfl
    · rw [← refresh_open isOpen]
      exact findSession_lively held found
  case dialogue =>
    intro d hd
    have acts := breakReceived_acts connected short
    rw [← hl] at acts
    have hd' : ((s.setLine p l).line p).holder = .dialogue d := by rw [line_l, hl]; exact hd
    refine ⟨fun entry => ?_, fun ignored => ?_⟩
    · rw [acts, breakActs_entry hd' entry, assembleSignOn_kill, line_l, setLine_setLine]
      rfl
    · rw [acts, breakActs_ignored hd' (by rcases ignored with e | e <;> simp [e])]
      rfl
  case stalled =>
    intro n x held found stalled
    have acts := breakReceived_acts connected short
    rw [← hl] at acts
    rw [acts, breakActs_stalled (s := s.setLine p l) (by rw [line_l, hl]; exact held) found stalled]
    rfl

end Sys2Proof.Machine.InOut
end

-- The sending of characters.
section
namespace Sys2Proof.Machine.InOut

/-! ## Sending (R43, R44, R46) -/

/-- The bits of a character: start bit, data low-order first, parity and the stop bits of the speed (R43). -/
theorem sentBits_eq (sp : Speed) (par : Parity) (c : Code) : sentBits sp par c =
    [false] ++ (List.range 7).map (fun i => c.getLsbD i) ++ [parityBitFor par c]
      ++ (if sp = .b110 then [true, true] else [true]) := by
  cases sp <;> simp [sentBits, Speed.stopBits]

/-- The bits of a fill NUL. -/
theorem sentBits_nul (sp : Speed) (par : Parity) : sentBits sp par 0#7 =
    List.replicate 8 false ++ [decide (par = .odd)] ++ (if sp = .b110 then [true, true] else [true]) := by
  cases sp <;> cases par <;> rfl

/-- The parity bit that goes out agrees with the parity (R25, R43). -/
theorem onesOf_parityBitFor (par : Parity) (c : Code) :
    (par = .even → onesOf c (parityBitFor par c) % 2 = 0) ∧ (par = .odd → onesOf c (parityBitFor par c) % 2 = 1) := by
  have agrees : parityError par c (parityBitFor par c) = false := by simp [parityError]
  refine ⟨?_, ?_⟩ <;> rintro rfl
  · exact (parityError_eq_onesOf c _).1.mp agrees
  · exact (parityError_eq_onesOf c _).2.mp agrees

/-- What the sending of the head of the queue does to the line's record (R43). -/
theorem sendNext_head (l : Line) {c : OutChar} {rest : List OutChar} {sp : Speed} {par : Parity} (queued : l.output = c :: rest)
    (noFill : l.fill = 0) (hsp : l.speed = some sp) (hpar : l.parity = some par) :
    l.sendNext.output = rest ∧ l.sendNext.transmit = sentBits sp par c.code
      ∧ l.sendNext.fill = (if c.code = 13#7 then sp.fillCount else 0)
      ∧ l.sendNext.drainWanted = l.drainWanted ∧ l.sendNext.holder = l.holder := by
  simp [Line.sendNext, noFill, queued, hsp, hpar, Line.bitsOf]

theorem sendNext_fill (l : Line) {k : Nat} {sp : Speed} {par : Parity} (due : l.fill = k + 1) (hsp : l.speed = some sp)
    (hpar : l.parity = some par) : l.sendNext = { l with fill := k, transmit := sentBits sp par 0#7 } := by
  simp only [Line.sendNext, due, Line.bitsOf, hsp, hpar]

theorem sendNext_rest (l : Line) (noFill : l.fill = 0) (empty : l.output = []) : l.sendNext = { l with transmit := [] } := by
  simp only [Line.sendNext, noFill, empty]

section
variable {s : State} {p : Port}

/-- A sending that takes no character off the queue changes the line's record alone. -/
theorem characterSent_same_queue (off : (s.line p).state = .connected ∨ (s.line p).state = .dropping)
    (h : (s.line p).sendNext.output = (s.line p).output) :
    exec (.characterSent p) s = .next (s.setLine p (s.line p).sendNext) := by
  have stays : s.sendCharacter p = s.setLine p (s.line p).sendNext := by
    simp only [State.sendCharacter, State.line_mapLine_same, h, Nat.lt_irrefl, if_false]
    rfl
  exact congrArg _ ((if_pos off).trans stays)

/-- A sending that takes the head off the queue meets the test for DRAINED (R46). -/
theorem characterSent_shorter (off : (s.line p).state = .connected ∨ (s.line p).state = .dropping)
    (h : (s.line p).sendNext.output.length < (s.line p).output.length) :
    exec (.characterSent p) s = .next ((s.setLine p (s.line p).sendNext).drainedTest p) := by
  have falls : s.sendCharacter p = (s.setLine p (s.line p).sendNext).drainedTest p := by
    simp only [State.sendCharacter, State.line_mapLine_same, h, if_true]
    rfl
  exact congrArg _ ((if_pos off).trans falls)

end

/-- DRAINED told, and not told (R46). -/
theorem drainedTest_told {s : State} {p : Port} {n : Nat} (held : (s.line p).holder = .session n)
    (wanted : (s.line p).drainWanted = true) (low : (s.line p).output.length ≤ 64) :
    s.drainedTest p = (s.setLine p { s.line p with drainWanted := false }).queueReport (.drained n p) := by
  simp only [State.drainedTest, wanted, low, and_self, if_true, held]

theorem drainedTest_quiet {s : State} {p : Port}
    (h : (∀ n, (s.line p).holder ≠ .session n) ∨ (s.line p).drainWanted = false ∨ 64 < (s.line p).output.length) :
    s.drainedTest p = s := by
  unfold State.drainedTest
  dsimp only
  split
  · next due =>
    obtain ⟨wanted, low⟩ := due
    split
    · next n held =>
      rcases h with free | unwanted | high
      · exact absurd held (free n)
      · exact absurd wanted (by simp [unwanted])
      · exact absurd low (Nat.not_le.mpr high)
    · rfl
  · rfl

/-- The head of the queue is sent: the outcome, by whether DRAINED is due (R43, R46). -/
theorem characterSent_head (s : State) (p : Port) (k : Line) (hk : k = (s.line p).sendNext)
    (off : (s.line p).state = .connected ∨ (s.line p).state = .dropping)
    (h : k.output.length < (s.line p).output.length) (kept : k.drainWanted = (s.line p).drainWanted ∧ k.holder = (s.line p).holder) :
    ∃ (told : Bool) (n : Nat), exec (.characterSent p) s = .next { s with
        lines := s.lines.set p { k with drainWanted := if told then false else k.drainWanted },
        link := if told then s.link.reported (.drained n p) else s.link }
      ∧ (∀ m, (s.line p).holder = .session m → (s.line p).drainWanted = true → k.output.length ≤ 64 → told = true ∧ n = m)
      ∧ ((s.line p).drainWanted = false ∨ 64 < k.output.length → told = false) := by
  subst hk
  have line_k := State.line_setLine_same s p (s.line p).sendNext
  rw [characterSent_shorter off h]
  by_cases due : ∃ n, (s.line p).holder = .session n ∧ (s.line p).drainWanted = true ∧ (s.line p).sendNext.output.length ≤ 64
  · obtain ⟨n, held, wanted, low⟩ := due
    refine ⟨true, n, ?_, fun m hm _ _ => ⟨rfl, ?_⟩, fun no => ?_⟩
    · rw [drainedTest_told (n := n) (by rw [line_k, kept.2]; exact held) (by rw [line_k, kept.1]; exact wanted)
        (by rw [line_k]; exact low), line_k, setLine_setLine, State.queueReport_eq]
      rfl
    · cases held.symm.trans hm
      rfl
    · rcases no with unwanted | high
      · exact absurd wanted (by simp [unwanted])
      · omega
  · refine ⟨false, 0, ?_, fun m held wanted low => absurd ⟨m, held, wanted, low⟩ due, fun _ => rfl⟩
    rw [drainedTest_quiet]
    · rfl
    · rw [line_k, kept.1, kept.2]
      by_cases held : ∃ n, (s.line p).holder = .session n
      · obtain ⟨n, held⟩ := held
        refine .inr ?_
        by_cases wanted : (s.line p).drainWanted = true
        · exact .inr (Nat.not_le.mp fun low => due ⟨n, held, wanted, low⟩)
        · exact .inl (by simpa using wanted)
      · exact .inl (not_exists.mp held)

/-- The oldest unreported message is reported as sent (R44, R89). -/
theorem partMessageSent_oldest {s : State} {p : Port} {m : Slot} {rest : List Slot} (connected : (s.line p).state = .connected)
    (oldest : (s.line p).unreported = m :: rest) :
    exec (.partMessageSent p m) s = .next (s.setLine p (({ s.line p with unreported := rest } : Line).endGreeting m)) := by
  have reported : (s.line p).reportMessage m = some { s.line p with unreported := rest } := by
    simp only [Line.reportMessage, oldest, if_true]
  refine congrArg _ ((if_pos (.inl connected)).trans ?_)
  rw [reported]

/-- The PROMPT having been sent ends a GREETING, and no other message ends a phase (R89). -/
theorem endGreeting_dialogue (l : Line) (m : Slot) {d : Dialogue} (hd : l.holder = .dialogue d) :
    l.endGreeting m = { l with
      holder := .dialogue (if d.phase = .greeting ∧ m = 1 then { d with phase := .entry } else d) } := by
  by_cases ends : d.phase = .greeting ∧ m = 1
  · simp only [Line.endGreeting, hd, if_pos ends]
  · have stays : l.endGreeting m = l := by simp only [Line.endGreeting, hd, if_neg ends]
    rw [stays, if_neg ends, ← hd]

/-- Settles O22: the head, a fill NUL or nothing is sent; and a message reported as sent may be the PROMPT. -/
theorem characterSentLeavesTheQueue : Obligations.CharacterSentLeavesTheQueue := by
  refine ⟨?head, fun s p off => ⟨?fill, ?rest⟩, ?message⟩
  case head =>
    intro s p c rest sp par off queued noFill hsp hpar
    obtain ⟨output, transmit, fill, drain, holder⟩ := sendNext_head (s.line p) queued noFill hsp hpar
    obtain ⟨told, n, run, tells, quiet⟩ := characterSent_head s p _ rfl off (by rw [output, queued]; simp) ⟨drain, holder⟩
    rw [output] at tells quiet
    refine ⟨_, parityBitFor par c.code, run, ?_⟩
    have line_t (l : Line) (a : Link) : State.line { s with lines := s.lines.set p l, link := a } p = l := by
      simp [State.line]
    rw [line_t]
    refine ⟨rfl, output, by rw [← sentBits_eq]; exact transmit, (onesOf_parityBitFor par c.code).1,
      (onesOf_parityBitFor par c.code).2, fill, fun m held wanted low => ?_, fun no => ?_⟩
    · obtain ⟨rfl, rfl⟩ := tells m held wanted low
      exact ⟨rfl, rfl⟩
    · rw [quiet no]
      exact ⟨rfl, drain⟩
  case fill =>
    intro k sp par due hsp hpar
    have next := sendNext_fill (s.line p) due hsp hpar
    rw [characterSent_same_queue off (by rw [next]), next, sentBits_nul]
    rfl
  case rest =>
    intro noFill empty
    have next := sendNext_rest (s.line p) noFill empty
    rw [characterSent_same_queue off (by rw [next]), next]
    rfl
  case message =>
    intro s p d m rest connected hd unreported
    rw [partMessageSent_oldest connected unreported, endGreeting_dialogue _ m (by exact hd)]
    rfl

end Sys2Proof.Machine.InOut
end

-- The frames sent.
section
namespace Sys2Proof.Machine.InOut

/-! ## The bytes of a frame (R166) -/

/-- A frame's bytes sum to 0 from its KIND on (R166). -/
theorem frameCheck_sum (kind : Byte) (body : List Byte) :
    body.foldl (fun a b => a + b) (kind + BitVec.ofNat 8 body.length) + frameCheck kind body = 0#8 := by
  change frameSum kind body + (0#8 - frameSum kind body) = 0#8
  rw [BitVec.zero_sub, BitVec.add_neg_eq_sub, BitVec.sub_self]

theorem flagByte_eq (b : Bool) : flagByte b = byteOf (flagNumber b) := by cases b <;> rfl

theorem lineByte_eq (p : Option Port) : lineByte p = byteOf (lineNumber p) := by cases p <;> rfl

theorem codeByte_eq (c : Code) : codeByte c = byteOf c.toNat :=
  BitVec.eq_of_toNat_eq (by simp [codeByte, byteOf])

/-- Fields of one byte each. -/
theorem laid_bytes {α : Type} (f : α → Nat) (xs : List α) : laid (xs.map (fun x => (1, f x))) = xs.map (fun x => byteOf (f x)) := by
  induction xs with
  | nil => rfl
  | cons x xs ih => simp only [List.map_cons, laid_cons, ih, beBytes_one, List.singleton_append]

theorem rateBytes_eq (rs : Vector Rate 4) :
    rateBytes rs = laid [(2, rs[0].number), (2, rs[1].number), (2, rs[2].number), (2, rs[3].number)] := by
  have code (r : Rate) : r.code = r.number := by cases r <;> rfl
  have list : rs.toList = [rs[0], rs[1], rs[2], rs[3]] := by
    apply List.ext_getElem (by simp)
    intro i h1 h2
    simp only [Vector.length_toList] at h1
    interval_cases i <;> rfl
  simp [rateBytes, list, code, laid_cons]

theorem eventBytes_eq (e : LineEvent) : eventBytes (some e) = laid (eventLayout (some e)) := by
  cases e <;> simp [eventBytes, eventLayout, laid_cons, beBytes_one, LineEvent.code, LineEvent.detail]

/-- A report carries the fields of its layout behind the lost flag (11.5). -/
theorem content_eq (r : Report) : r.content = laid r.layout := by
  have marks (ms : List Nat) : laid (ms.map (fun m => (1, m))) = ms.map byteOf := laid_bytes id ms
  have text (cs : List Code) : laid (cs.map (fun c => (1, c.toNat))) = cs.map codeByte := by
    rw [laid_bytes (fun c : Code => c.toNat)]
    simp only [← codeByte_eq]
  cases r with
  | lineEvent p e => simp [Report.content, Report.layout, laid_cons, beBytes_one, eventBytes_eq, lineByte]
  | input n p r =>
    simp [Report.content, Report.layout, laid_cons, laid_append, beBytes_one, lineByte, flagByte_eq, marks, text, textBytes]
  | accountLocked a p would k r =>
    cases k <;>
      simp [Report.content, Report.layout, laid_cons, beBytes_one, lineByte, flagByte_eq, LockState.code, LockState.seconds]
  | tariffSwitched now w => simp [Report.content, Report.layout, laid_cons, beBytes_one, rateBytes_eq]
  | sessionOpened | sessionHeld | sessionResumed | sessionClosed | fundsLow | drained | billsWaiting | loadBand | linkRestored =>
    simp [Report.content, Report.layout, laid_cons, beBytes_one, lineByte_eq, lineNumber, flagByte_eq]

theorem kind_eq (r : Report) : r.kind = BitVec.ofNat 8 r.kindNumber := by cases r <;> rfl

/-- The body of a report's frame (R171, 11.5). -/
theorem body_eq (r : Report) (lost : Bool) : flagByte lost :: r.content = laid ((1, flagNumber lost) :: r.layout) := by
  rw [laid_cons, beBytes_one, flagByte_eq, content_eq, List.singleton_append]

/-! ## What is sent (R38, R170, R171) -/

/-- The reply's sending begins, with no order held behind it (R170). -/
theorem replySendStart_alone {s : State} {r : Reply} (reply : s.link.replyPath = some r) (alone : s.link.heldOrder = none) :
    exec .replySendStart s = .next { s with link := { s.link with replyPath := none, sending := r.frame } } := by
  have sent : s.sendReply r = { s with link := { s.link with replyPath := none, sending := r.frame } } := by
    simp only [State.sendReply, alone]
  have run : execReplySendStart s = .next (s.sendReply r) := by simp only [execReplySendStart, reply]
  exact run.trans (congrArg _ sent)

/-- A report's sending begins, and the input wait list is looked at (R38, R171). -/
theorem reportSendStart_head {s : State} {r : Report} {rest : List Report} (free : s.link.replyPath = none)
    (head : s.link.reports = r :: rest) :
    exec .reportSendStart s = .next (State.releaseInput
      { s with link := { s.link with sending := r.frame s.link.lost, reports := rest, lost := false } } s.inputWait) := by
  have run : execReportSendStart s = .next (s.sendReport r rest) := by simp only [execReportSendStart, free, head]
  exact run

/-- With fewer than 16 entries free nothing leaves the input wait list (R38). -/
theorem releaseInput_full {s : State} (ps : List Port) (full : 48 < s.link.reports.length) : State.releaseInput s ps = s := by
  cases ps with
  | nil => rfl
  | cons p rest => exact if_neg (by simp only [Config.inputReserve, Config.reportEntries]; omega)

/-- With exactly 16 entries free the record at the head of the input wait list is queued, and no other (R38). -/
theorem releaseInput_one {s : State} {p : Port} {more : List Port} {w : InputRecord} {n : Nat}
    (waits : (s.line p).waitingRecord = some w) (held : (s.line p).holder = .session n) (room : s.link.reports.length = 48) :
    State.releaseInput s (p :: more) = { s.setLine p (s.line p).clearWaiting with
      inputWait := more, link := { s.link with reports := s.link.reports ++ [.input n p w] } } := by
  have free : s.link.reports.length + 16 ≤ 64 := by omega
  have released : State.releaseInput s (p :: more) = State.releaseInput { s.setLine p (s.line p).clearWaiting with
      inputWait := more, link := { s.link with reports := s.link.reports ++ [.input n p w] } } more := by
    simp only [State.releaseInput, free, if_true, waits, held]
    rfl
  rw [released]
  exact releaseInput_full more (by simp [room])

/-- The end of a waiting record, with pending settings behind an empty partial record (R48). -/
theorem clearWaiting_eq (l : Line) : l.clearWaiting = { l with
    waitingRecord := none,
    settings := if l.partialRecord = {} then l.pendingSettings.getD l.settings else l.settings,
    pendingSettings := if l.partialRecord = {} then none else l.pendingSettings } := by
  unfold Line.clearWaiting
  split <;> rfl

/-- The bytes of a report's frame. -/
theorem frame_eq (r : Report) (lost : Bool) : r.frame lost =
    [0xC3#8, BitVec.ofNat 8 r.kindNumber, BitVec.ofNat 8 (flagByte lost :: r.content).length] ++ (flagByte lost :: r.content)
      ++ [frameCheck r.kind (flagByte lost :: r.content)] := by
  rw [← kind_eq]
  rfl

/-- Settles O30: the bytes by the layouts, the outbound side by which of its queues is empty. -/
theorem outboundFrames : Obligations.OutboundFrames := by
  refine ⟨fun s => ⟨?reply, ?report, ?behind, ?none⟩, ?released⟩
  case reply =>
    intro r reply alone
    refine ⟨frameCheck 0x80#8 (r.kind :: BitVec.ofNat 8 r.code.number :: r.data), replySendStart_alone reply alone, ?_⟩
    exact frameCheck_sum 0x80#8 (r.kind :: BitVec.ofNat 8 r.code.number :: r.data)
  case report =>
    intro r rest body free head nobody hbody
    rw [← body_eq] at hbody
    subst hbody
    refine ⟨frameCheck r.kind (flagByte s.link.lost :: r.content), ?_, ?_⟩
    · rw [reportSendStart_head free head, nobody, ← frame_eq]
      rfl
    · rw [← kind_eq]
      exact frameCheck_sum _ _
  case behind =>
    intro reply
    obtain ⟨r, hr⟩ := Option.ne_none_iff_exists'.mp reply
    change execReportSendStart s = _
    simp only [execReportSendStart, hr]
  case none =>
    intro empty
    change execReplySendStart s = _
    simp only [execReplySendStart, empty]
  case released =>
    intro s r rest p more w n free head hwait waits held
    refine ⟨_, reportSendStart_head free head, ?_, fun room => ?_, fun full => ?_⟩
    · refine ⟨frameCheck r.kind (flagByte s.link.lost :: r.content), ?_⟩
      have sending (t : State) : (State.releaseInput t s.inputWait).link.sending = t.link.sending := by simp
      rw [sending, ← content_eq, Nat.add_comm]
      exact frame_eq r s.link.lost
    · rw [hwait, releaseInput_one (by exact waits) (by exact held) (by exact room), clearWaiting_eq]
      rfl
    · rw [releaseInput_full _ (by exact full)]

end Sys2Proof.Machine.InOut
end

-- Closes and calls that end.
section
namespace Sys2Proof.Machine.InOut

/-! ## The load band, settled or not (R139) -/

/-- A band that rises stands above where it was, with no way to fall. -/
theorem raiseBand_same_or_above (k : Nat) (s : State) (q : Bool) :
    State.raiseBand k s q = s ∨ (s.tariff.band < (State.raiseBand k s q).tariff.band ∧ ¬ (State.raiseBand k s q).falls) := by
  induction k generalizing s with
  | zero => exact .inl rfl
  | succ k ih =>
    by_cases up : s.rises
    · refine .inr ?_
      rw [State.raiseBand_moves k s q up]
      obtain ⟨band, steps, _, slots⟩ := s.setBand_keeps (s.tariff.band + 1) q
      rcases ih (s.setBand (s.tariff.band + 1) q) with same | ⟨above, stays⟩
      · rw [same]
        refine ⟨by omega, fun down => ?_⟩
        have low := down.2
        rw [band, steps, slots] at low
        have high := up.2
        omega
      · exact ⟨by omega, stays⟩
    · exact .inl (State.raiseBand_stays _ s q up)

/-- A band that falls stands one lower, or two and more. -/
theorem lowerBand_same_or_one_or_more (k : Nat) (s : State) (q : Bool) :
    State.lowerBand k s q = s ∨ (0 < s.tariff.band ∧ State.lowerBand k s q = s.setBand (s.tariff.band - 1) q)
      ∨ (State.lowerBand k s q).tariff.band + 2 ≤ s.tariff.band := by
  induction k generalizing s with
  | zero => exact .inl rfl
  | succ k ih =>
    by_cases down : s.falls
    · refine .inr ?_
      rw [State.lowerBand_moves k s q down]
      obtain ⟨band, _, _, _⟩ := s.setBand_keeps (s.tariff.band - 1) q
      have positive := down.1
      rcases ih (s.setBand (s.tariff.band - 1) q) with same | ⟨more, one⟩ | two
      · exact .inl ⟨positive, same⟩
      · refine .inr ?_
        rw [one, (State.setBand_keeps _ _ q).1]
        omega
      · exact .inr (by omega)
    · exact .inl (State.lowerBand_stays _ s q down)

/-- An evaluation of the band that leaves it, or leaves it one lower, is no move or one move. -/
theorem reband_one_move (s : State) (q : Bool)
    (h : (s.reband q).tariff.band = s.tariff.band ∨ (s.reband q).tariff.band + 1 = s.tariff.band) :
    s.reband q = if (s.reband q).tariff.band = s.tariff.band then s else s.setBand (s.reband q).tariff.band q := by
  unfold State.reband at h ⊢
  rcases raiseBand_same_or_above 3 s q with same | ⟨above, stays⟩
  · rw [same] at h ⊢
    rcases lowerBand_same_or_one_or_more 3 s q with still | ⟨positive, one⟩ | two
    · rw [still, if_pos rfl]
    · have band := (s.setBand_keeps (s.tariff.band - 1) q).1
      rw [one, band, if_neg (by omega)]
    · omega
  · rw [State.lowerBand_stays _ _ _ stays] at h
    omega

/-- The reports of an evaluation that leaves the band, or leaves it one lower. -/
theorem reband_link (s : State)
    (h : (s.reband false).tariff.band = s.tariff.band ∨ (s.reband false).tariff.band + 1 = s.tariff.band) :
    (s.reband false).link = if (s.reband false).tariff.band = s.tariff.band then s.link
      else s.link.reported (.loadBand s.tariff.band (s.reband false).tariff.band s.sessions.length
        (s.tariff.steps.multiplier (s.reband false).tariff.band)) := by
  have move := reband_one_move s false h
  generalize (s.reband false).tariff.band = b at move ⊢
  rw [move]
  split
  · rfl
  · simp only [State.setBand, Bool.false_eq_true, if_false, State.queueReport_eq]
    rfl

/-- A close leaves a settled band as `fallen` has it. -/
theorem reband_fallen (s : State) (u : Nat) (settled : s.tariff.steps.settled s.tariff.band (u + 1)) (h : s.sessions.length = u) :
    (s.reband false).tariff.band = s.tariff.steps.fallen s.tariff.band u := by
  rw [State.reband_falls s false u settled h]
  split
  · next same => exact same.symm
  · next moves =>
    rw [(s.setBand_keeps _ _).1]
    unfold LoadSteps.fallen at moves ⊢
    split
    · rfl
    · next no => exact absurd (if_neg no) moves

/-! ## Finalization changes one session's meter (R155, R156) -/

/-- `t` has the session records of `s` but for the meter of session `n`. -/
def MeterOnly (n : Nat) (s t : State) : Prop :=
  t.sessions.eraseP (fun y => y.number == n) = s.sessions.eraseP (fun y => y.number == n)
    ∧ ∀ x, s.findSession n = some x → ∃ m, t.findSession n = some { x with meter := m }

theorem eraseP_changeFirst {α : Type} (is : α → Bool) (f : α → α) (h : ∀ x, is (f x) = is x) (xs : List α) :
    (changeFirst is f xs).eraseP is = xs.eraseP is := by
  induction xs with
  | nil => rfl
  | cons x xs ih =>
    by_cases hx : is x = true
    · simp [changeFirst, hx, h]
    · simp [changeFirst, hx, ih]

theorem MeterOnly.refl (n : Nat) (s : State) : MeterOnly n s s := ⟨rfl, fun x h => ⟨x.meter, h⟩⟩

theorem MeterOnly.trans {n : Nat} {s t u : State} (h : MeterOnly n s t) (k : MeterOnly n t u) : MeterOnly n s u := by
  refine ⟨k.1.trans h.1, fun x hx => ?_⟩
  obtain ⟨m, hm⟩ := h.2 x hx
  obtain ⟨m', hm'⟩ := k.2 _ hm
  exact ⟨m', hm'⟩

theorem meterOnly_mapSession (n : Nat) (s : State) (f : Session → Meter) :
    MeterOnly n s (s.mapSession n (fun y => { y with meter := f y })) :=
  ⟨eraseP_changeFirst _ (fun y : Session => { y with meter := f y }) (fun _ => rfl) _,
    fun x h => ⟨f x, s.findSession_mapSession n _ x h rfl⟩⟩

theorem meterOnly_bookUnits (n : Nat) (s : State) (k : Nat) : MeterOnly n s (s.bookUnits n k) := by
  unfold State.bookUnits
  split
  · exact .refl n s
  · exact meterOnly_mapSession n s _

theorem meterOnly_finalize (n : Nat) (s : State) : MeterOnly n s (s.finalize n) := by
  have round : MeterOnly n s (s.roundSession n) := by
    unfold State.roundSession
    repeat' split
    · exact .refl n s
    · exact (meterOnly_mapSession n s _).trans (meterOnly_bookUnits n _ _)
    · exact .refl n s
  have minimum (t : State) : MeterOnly n t (t.applyMinimum n) := by
    unfold State.applyMinimum
    repeat' split
    · exact .refl n t
    · exact (meterOnly_mapSession n t _).trans (meterOnly_bookUnits n _ _)
    · exact .refl n t
  exact round.trans (minimum _)

/-! ## A session leaves its line (R116, R121) -/

/-- A line record that its session has left. -/
def unbound (l : Line) : Line :=
  let k := { l with holder := .none, partialRecord := {}, drainWanted := false }
  if l.waitingRecord = none then k else k.clearWaiting

/-- The discard of a waiting record, where there is one (R39). -/
theorem discardWaiting_eq (s : State) (p : Port) : s.discardWaiting p =
    if (s.line p).waitingRecord = none then s
    else { s.setLine p (s.line p).clearWaiting with inputWait := without p s.inputWait } := by
  unfold State.discardWaiting
  split
  · next none => exact (if_pos none).symm
  · next some => exact (if_neg (by simp [some])).symm

theorem unbindLine_eq (s : State) (p : Port) : s.unbindLine p = { s.setLine p (unbound (s.line p)) with
    inputWait := if (s.line p).waitingRecord = none then s.inputWait else without p s.inputWait } := by
  unfold State.unbindLine
  rw [discardWaiting_eq, State.line_mapLine_same]
  unfold unbound
  dsimp only
  split
  · rfl
  · simp only [State.mapLine, setLine_setLine]
    rfl

theorem without_without (p : Port) (xs : List Port) : without p (without p xs) = without p xs := by
  simp [without]

/-! ## The call ends (R14, R16) -/

/-- A line record after its call ended with a drop without message. -/
def shut (l : Line) (d : Destination) : Line :=
  { l.releaseCall with state := .guard, window := some 2, destination := d, lastEvent := some (.callEnded .dropped) }

theorem shut_unbound (l : Line) (d : Destination) : shut (unbound l) d = shut l d := by
  unfold unbound Line.clearWaiting
  dsimp only
  repeat' split
  all_goals rfl

theorem unbound_state (l : Line) : (unbound l).state = l.state := by
  unfold unbound Line.clearWaiting
  dsimp only
  repeat' split
  all_goals rfl

/-- A drop without message on a CONNECTED line, whole (R14). -/
theorem dropWithoutMessage_eq (s : State) (p : Port) (d : Destination) (h : (s.line p).state = .connected) :
    s.dropWithoutMessage p d = { s with
      lines := s.lines.set p (shut (s.line p) d), inputWait := without p s.inputWait, waitQueue := without p s.waitQueue,
      link := s.link.evented p (.callEnded .dropped) } := by
  rw [State.dropWithoutMessage_offHook s p d (by rw [h]; rfl), State.goOnHook_eq, State.raiseEvent_eq]
  simp [shut, State.line]

end Sys2Proof.Machine.InOut
end

-- A close whose place no waiting line takes.
section
namespace Sys2Proof.Machine.InOut

/-! ## A close whose place no waiting line takes (R121) -/

/-- A bill record joins the list and is told at the first record and at the high level (R161, R164). -/
theorem addBill_eq (s : State) (b : Bill) : s.addBill b false = { s with
    bills := s.bills ++ [b],
    link := if s.bills.length = 0 ∨ s.bills.length = 95 then s.link.reported (.billsWaiting (s.bills.length + 1)) else s.link } := by
  unfold State.addBill
  simp only [true_and, State.queueReport_eq]
  split <;> rfl

/-- Session `n`, whose record is `x` with its charge final, has its bill, and its account has one session fewer (R121). -/
def billed (s : State) (n : Nat) (x : Session) (c : Cause) : State :=
  ((s.finalize n).addBill ((s.finalize n).billOf x c) false).mapAccount x.account (fun a => { a with active := a.active - 1 })

theorem billed_fields (s : State) (n : Nat) (x : Session) (c : Cause) :
    (billed s n x c).lines = s.lines ∧ (billed s n x c).sessions = (s.finalize n).sessions
      ∧ (billed s n x c).bills = s.bills ++ [(s.finalize n).billOf x c] ∧ (billed s n x c).inputWait = s.inputWait
      ∧ (billed s n x c).waitQueue = s.waitQueue ∧ (billed s n x c).tariff = s.tariff
      ∧ (billed s n x c).link = (if s.bills.length = 0 ∨ s.bills.length = 95
          then s.link.reported (.billsWaiting (s.bills.length + 1)) else s.link) := by
  simp [billed, addBill_eq, State.mapAccount]

/-- The session is off line `p` and off the table too, and the band is not yet evaluated. -/
def removed (s : State) (n : Nat) (p : Port) (x : Session) (c : Cause) : State :=
  { (billed s n x c).unbindLine p with
    sessions := ((billed s n x c).unbindLine p).sessions.eraseP (fun y => y.number == n) }

/-- What the state before the band's evaluation holds. -/
theorem removed_fields (s : State) (n : Nat) (p : Port) (x : Session) (c : Cause) :
    (removed s n p x c).lines = s.lines.set p (unbound (s.line p))
      ∧ (removed s n p x c).sessions = s.sessions.eraseP (fun y => y.number == n)
      ∧ (removed s n p x c).bills = s.bills ++ [(s.finalize n).billOf x c]
      ∧ (removed s n p x c).inputWait = (if (s.line p).waitingRecord = none then s.inputWait else without p s.inputWait)
      ∧ (removed s n p x c).waitQueue = s.waitQueue ∧ (removed s n p x c).tariff = s.tariff
      ∧ (removed s n p x c).link = (if s.bills.length = 0 ∨ s.bills.length = 95
          then s.link.reported (.billsWaiting (s.bills.length + 1)) else s.link) := by
  obtain ⟨lines, sessions, bills, inputWait, waitQueue, tariff, link⟩ := billed_fields s n x c
  have line_p : (billed s n x c).line p = s.line p := State.line_congr lines p
  have erased := (meterOnly_finalize n s).1
  rw [← sessions] at erased
  unfold removed
  rw [unbindLine_eq, line_p, inputWait]
  exact ⟨congrArg (fun v : Vector Line 32 => v.set p (unbound (s.line p))) lines, erased, bills, rfl, waitQueue, tariff, link⟩

theorem closeSession_eq {s : State} {n : Nat} {p : Port} {x : Session} {c : Cause}
    (found : (s.finalize n).findSession n = some x) (bound : x.boundLine = some p)
    (nobody : ((removed s n p x c).reband false).waitQueue = []
      ∨ (removed s n p x c).link.limits.hostSlots ≤ (removed s n p x c).sessions.length) :
    s.closeSession n c false = ((removed s n p x c).reband false).queueReport (.sessionClosed n x.account (some p) c) := by
  have free : (billed s n x c).freeSession n false = (removed s n p x c).reband false := by
    have bound' : (billed s n x c).boundLine n = some p := by
      unfold State.boundLine State.findSession
      rw [(billed_fields s n x c).2.1]
      exact (congrArg (Option.bind · Session.boundLine) found).trans bound
    simp only [State.freeSession, bound']
    rfl
  have still (t : State) (h : t.waitQueue = [] ∨ t.limits.hostSlots ≤ t.slotsInUse) :
      (if t.slotsInUse < t.limits.hostSlots then t.evaluate else t) = t := by
    rcases h with empty | full
    · rw [State.evaluate_nil t empty, ite_self]
    · exact if_neg (Nat.not_lt.mpr full)
  have waits : ((removed s n p x c).reband false).waitQueue = []
      ∨ ((removed s n p x c).reband false).limits.hostSlots ≤ ((removed s n p x c).reband false).slotsInUse := by
    refine nobody.imp_right fun full => ?_
    simpa [State.limits, State.slotsInUse] using full
  have close : s.closeSession n c false = (let s3 := (billed s n x c).freeSession n false
      (if s3.slotsInUse < s3.limits.hostSlots then s3.evaluate else s3).queueReport (.sessionClosed n x.account x.boundLine c)) := by
    simp only [State.closeSession, found, Bool.false_eq_true, if_false]
    rfl
  rw [close, free, bound]
  exact congrArg (State.queueReport · _) (still _ waits)

/-- A session with line `p` closes, and no waiting line takes its place: what is left (R121, R139, R164). -/
theorem closeSession_fields {s : State} {n : Nat} {p : Port} {x : Session} (c : Cause) (found : s.findSession n = some x)
    (bound : x.boundLine = some p) (nobody : s.waitQueue = [] ∨ s.link.limits.hostSlots < s.sessions.length) :
    ∃ b, (s.closeSession n c false).lines = s.lines.set p (unbound (s.line p))
      ∧ (s.closeSession n c false).sessions = s.sessions.eraseP (fun y => y.number == n)
      ∧ (s.closeSession n c false).bills = s.bills ++ [b] ∧ b.session = n ∧ b.cause = c
      ∧ (s.closeSession n c false).inputWait = (if (s.line p).waitingRecord = none then s.inputWait else without p s.inputWait)
      ∧ (s.closeSession n c false).waitQueue = s.waitQueue
      ∧ ((s.closeSession n c false).tariff.band = s.tariff.band ∨ (s.closeSession n c false).tariff.band + 1 = s.tariff.band →
          (s.closeSession n c false).link = s.closeReports x c (s.closeSession n c false).tariff.band)
      ∧ (s.bandSettled →
          (s.closeSession n c false).tariff.band = s.tariff.steps.fallen s.tariff.band (s.sessions.length - 1)) := by
  have hn : x.number = n := by simpa using List.find?_some found
  have length : (s.sessions.eraseP (fun y => y.number == n)).length = s.sessions.length - 1 :=
    List.length_eraseP_of_mem (List.mem_of_find?_eq_some found) (by simp [hn])
  have some_session : 1 ≤ s.sessions.length := List.length_pos_of_mem (List.mem_of_find?_eq_some found)
  obtain ⟨m, final⟩ := (meterOnly_finalize n s).2 x found
  obtain ⟨lines, sessions, bills, inputWait, waitQueue, tariff, link⟩ := removed_fields s n p { x with meter := m } c
  have limits : (removed s n p { x with meter := m } c).link.limits = s.link.limits := by
    rw [link]
    split
    · exact (Link.reported_fields s.link _).1
    · rfl
  have close := closeSession_eq (c := c) final bound (by
    rcases nobody with empty | full
    · exact .inl (by simp [waitQueue, empty])
    · exact .inr (by rw [sessions, length, limits]; omega))
  obtain ⟨keptLines, _, _, _, _, keptWait, keptInput, keptSessions, _, keptBills, _⟩ :=
    State.reband_frame (removed s n p { x with meter := m } c) false
  rw [lines] at keptLines
  rw [sessions] at keptSessions
  rw [bills] at keptBills
  rw [inputWait] at keptInput
  rw [waitQueue] at keptWait
  have moved := reband_link (removed s n p { x with meter := m } c)
  rw [tariff, sessions, length, link] at moved
  have fallen (settled : s.bandSettled) := reband_fallen (removed s n p { x with meter := m } c) (s.sessions.length - 1)
    (by rw [tariff, Nat.sub_add_cancel some_session]; exact settled) (by rw [sessions, length])
  rw [tariff] at fallen
  rw [close, State.queueReport_eq]
  generalize (removed s n p { x with meter := m } c).reband false = r at *
  refine ⟨(s.finalize n).billOf { x with meter := m } c, keptLines, keptSessions, keptBills, hn, rfl, keptInput, keptWait,
    fun band => ?_, fallen⟩
  change r.link.reported _ = _
  rw [moved band, State.closeReports, hn, bound]

end Sys2Proof.Machine.InOut
end

-- The NOISE and LONG SPACE faults in CONNECTED.
section
namespace Sys2Proof.Machine.InOut

/-! ## The fault's line, sessions and outcome (R42, R53, R60) -/

/-- What is timed of a space when a fault of CONNECTED is taken: the space of the LONG SPACE fault goes on. -/
def spaceAt (k : FaultKind) : SpaceTiming := if k = .longSpace then .longSpace else .none

/-- The noise count when the fault is taken: the NOISE fault clears it (R53). -/
def noiseAt (k : FaultKind) (l : Line) : Nat := if k = .noise then 0 else l.noiseCount

/-- The session records when the fault is taken: the character that is the NOISE fault is a sign of life (R26, R115). -/
def sessionsAt (s : State) (p : Port) (k : FaultKind) : List Session :=
  if k = .noise then lively (s.line p).holder s.sessions else s.sessions

/-- The state in which the fault is taken. -/
def struck (s : State) (p : Port) (k : FaultKind) : State :=
  { s with
    lines := s.lines.set p { s.line p with space := spaceAt k, noiseCount := noiseAt k (s.line p) }
    sessions := sessionsAt s p k }

theorem struck_line (s : State) (p : Port) (k : FaultKind) :
    (struck s p k).line p = { s.line p with space := spaceAt k, noiseCount := noiseAt k (s.line p) } := by
  simp [struck, State.line]

/-- A session's record when the fault is taken. -/
def sessionAt (k : FaultKind) (x : Session) : Session := if k = .noise then refresh x else x

theorem findSession_struck {s : State} {p : Port} {n : Nat} (k : FaultKind) (held : (s.line p).holder = .session n) :
    (∀ x, s.findSession n = some x → (sessionsAt s p k).find? (fun y => y.number == n) = some (sessionAt k x))
      ∧ ∀ m, m ≠ n → (sessionsAt s p k).find? (fun y => y.number == m) = s.findSession m := by
  unfold sessionsAt sessionAt
  split
  · exact ⟨fun x found => findSession_lively held found, findSession_lively_ne held⟩
  · exact ⟨fun x found => found, fun m _ => rfl⟩

theorem sessionAt_fields (k : FaultKind) (x : Session) : (sessionAt k x).number = x.number ∧ (sessionAt k x).account = x.account
    ∧ (sessionAt k x).boundLine = x.boundLine ∧ (sessionAt k x).snapshot = x.snapshot := by
  unfold sessionAt refresh
  repeat' split
  all_goals exact ⟨rfl, rfl, rfl, rfl⟩

/-- A session that the fault holds (R116): the NOISE fault leaves an OPEN one idle 0. -/
theorem sessionAt_held (k : FaultKind) (x : Session) (h : Nat) :
    ({ sessionAt k x with state := .held, boundLine := none, hold := some h } : Session) = { x with
      state := .held, boundLine := none, hold := some h,
      idle := if k = .noise ∧ x.state = .open then 0 else x.idle,
      idleWarned := if k = .noise ∧ x.state = .open then false else x.idleWarned } := by
  by_cases noise : k = .noise <;> by_cases isOpen : x.state = .open <;> simp [sessionAt, refresh, noise, isOpen]

theorem eraseP_sessionsAt (s : State) (p : Port) (k : FaultKind) {n : Nat} (held : (s.line p).holder = .session n) :
    (sessionsAt s p k).eraseP (fun y => y.number == n) = s.sessions.eraseP (fun y => y.number == n) := by
  unfold sessionsAt
  split
  · rw [held]
    exact eraseP_changeFirst _ refresh (fun x => by rw [refresh_number]) _
  · rfl

theorem length_sessionsAt (s : State) (p : Port) (k : FaultKind) : (sessionsAt s p k).length = s.sessions.length := by
  unfold sessionsAt
  split
  · cases (s.line p).holder with
    | session n => exact s.length_mapSession n refresh
    | dialogue d | none => rfl
  · rfl

theorem sessionsAt_of_no_session {s : State} {p : Port} (k : FaultKind) (h : ∀ n, (s.line p).holder ≠ .session n) :
    sessionsAt s p k = s.sessions := by
  unfold sessionsAt
  rw [lively_of_no_session h, ite_self]

/-! ## The fault is taken -/

/-- The command `i` is the fault `k` on the CONNECTED line, under the policy entry `e` (R42, R53). -/
def faults (s : State) (p : Port) (i : Instr) (k : FaultKind) (e : PolicyEntry) : Prop :=
  (k = .longSpace ∧ e = s.policies.longSpace ∧ i = .longSpace p)
    ∨ (k = .noise ∧ e = s.policies.noise ∧ e.noiseLimit ≤ (s.line p).noiseCount + 1 ∧ ∃ c bit, errs (s.line p) p c bit i)

section
variable {s : State} {p : Port} {i : Instr} {k : FaultKind} {e : PolicyEntry}

theorem faults_entry (h : faults s p i k e) : s.policies.entry k = e := by
  rcases h with ⟨rfl, rfl, _⟩ | ⟨rfl, rfl, _⟩ <;> rfl

theorem countError_limit (t : State) (h : t.policies.noise.noiseLimit ≤ (t.line p).noiseCount + 1) :
    t.countError p = ((t.setLine p { t.line p with noiseCount := 0 }).takeFault p .noise,
      FaultKind.noise.endsCall t.policies.noise.mode) := if_pos h

/-- The command takes the fault; an error character may then go on (R25, R53). -/
theorem exec_longSpace (connected : (s.line p).state = .connected) :
    exec (.longSpace p) s = .next ((struck s p .longSpace).takeFault p .longSpace) := by
  change execLongSpace p s = _
  unfold execLongSpace
  rw [connected]
  rfl

theorem exec_noise {c : Code} {bit : Bool} (connected : (s.line p).state = .connected) (h : errs (s.line p) p c bit i)
    (limit : s.policies.noise.noiseLimit ≤ (s.line p).noiseCount + 1) :
    exec i s = .next (substituted ((struck s p .noise).takeFault p .noise) p
      (FaultKind.noise.endsCall s.policies.noise.mode) (s.line p).substitute) := by
  have limit' : (received s p).policies.noise.noiseLimit ≤ ((received s p).line p).noiseCount + 1 := by
    rw [received_line]; exact limit
  rw [receive_error s p c bit i h connected, countError_limit _ limit', received_line, received_setLine]
  rfl

/-- The line's record with the fault judged and its holder not yet told (R60, R61). -/
def judgedLine (k : FaultKind) (e : PolicyEntry) (l : Line) : Line :=
  { l with
    space := spaceAt k, noiseCount := noiseAt k l, retryCount := e.retryAfter l.retryCount,
    lastEvent := if e.mode = .ignore then l.lastEvent else some (.fault k) }

/-- The state with the fault judged and its holder not yet told (R60, R61). -/
def judged (s : State) (p : Port) (k : FaultKind) (e : PolicyEntry) : State :=
  { s with
    lines := s.lines.set p (judgedLine k e (s.line p)), sessions := sessionsAt s p k,
    link := if e.mode = .ignore then s.link else s.link.evented p (.fault k) }

theorem judged_line (s : State) (p : Port) (k : FaultKind) (e : PolicyEntry) :
    (judged s p k e).line p = judgedLine k e (s.line p) := by
  simp [judged, State.line]

theorem judgeFault_struck (h : s.policies.entry k = e) :
    (struck s p k).judgeFault p k = (judged s p k e, e.destination (e.retryAfter (s.line p).retryCount)) := by
  have entry : (struck s p k).policies.entry k = e := h
  unfold State.judgeFault
  simp only [entry, State.mapLine, struck_line, State.raiseEvent_eq, Prod.mk.injEq, and_true]
  by_cases ignore : e.mode = .ignore
  · simp [judged, judgedLine, ignore, struck, State.setLine]
  · simp [judged, judgedLine, ignore, struck, State.setLine, State.line]

theorem takeFault_ends (h : s.policies.entry k = e) (ends : k.endsCall e.mode = true) :
    (struck s p k).takeFault p k = ((judged s p k e).tellHolder p .lineFault).dropWithoutMessage p
      (e.destination (e.retryAfter (s.line p).retryCount)) := by
  have entry : (struck s p k).policies.entry k = e := h
  simp only [State.takeFault, judgeFault_struck h, entry, ends, if_true]

theorem takeFault_goes_on (h : s.policies.entry k = e) (goes_on : k.endsCall e.mode = false) :
    (struck s p k).takeFault p k = judged s p k e := by
  have entry : (struck s p k).policies.entry k = e := h
  simp only [State.takeFault, judgeFault_struck h, entry, goes_on, Bool.false_eq_true, if_false]

/-! ## The call ends under LATCH and RETRY (R59, R60, R62) -/

/-- The command ends the call (R62). -/
theorem exec_ends (connected : (s.line p).state = .connected) (h : faults s p i k e) (ends : e.mode = .latch ∨ e.mode = .retry) :
    exec i s = .next (((judged s p k e).tellHolder p .lineFault).dropWithoutMessage p
      (e.destination (e.retryAfter (s.line p).retryCount))) := by
  have entry := faults_entry h
  rcases h with ⟨rfl, rfl, rfl⟩ | ⟨rfl, rfl, limit, c, bit, error⟩
  · rw [exec_longSpace connected, takeFault_ends entry (by rcases ends with m | m <;> rw [m] <;> rfl)]
  · have fatal : FaultKind.noise.endsCall s.policies.noise.mode = true := by rcases ends with m | m <;> rw [m] <;> rfl
    rw [exec_noise connected error limit, takeFault_ends entry fatal, fatal]
    rfl

/-- A drop of the line, whose record alone was changed before. -/
theorem drop_after {t : State} {l : Line} (d : Destination) (lines : t.lines = s.lines.set p l) (connected : l.state = .connected) :
    t.dropWithoutMessage p d = { t with
      lines := s.lines.set p (shut l d), inputWait := without p t.inputWait, waitQueue := without p t.waitQueue,
      link := t.link.evented p (.callEnded .dropped) } := by
  have line : t.line p = l := by simp [State.line, lines]
  rw [dropWithoutMessage_eq t p d (by rw [line]; exact connected), line, lines]
  simp

/-! What holds the line is told (R62). -/

theorem tellHolder_dialogue {d : Dialogue} (hd : (s.line p).holder = .dialogue d) (w : HeldReason) :
    s.tellHolder p w = { s with
      lines := s.lines.set p { s.line p with holder := .none }, waitQueue := without p s.waitQueue } := by
  unfold State.tellHolder
  rw [hd]
  rfl

theorem tellHolder_session {n : Nat} (held : (s.line p).holder = .session n) (w : HeldReason) :
    s.tellHolder p w = s.loseLine n p w := by
  unfold State.tellHolder
  rw [held]

/-- A session that becomes HELD for a hold time (R116). -/
def parked (h : Nat) (y : Session) : Session := { y with state := .held, boundLine := none, hold := some h }

/-- A session with a hold time loses its line (R116). -/
theorem loseLine_held {n : Nat} {x : Session} (found : s.findSession n = some x) (holds : x.snapshot.record.holdTime ≠ 0) :
    s.loseLine n p .lineFault = { s with
      lines := s.lines.set p { unbound (s.line p) with output := [], unreported := [], fill := 0 },
      inputWait := if (s.line p).waitingRecord = none then s.inputWait else without p s.inputWait,
      sessions := changeFirst (fun y => y.number == n) (parked x.snapshot.record.holdTime) s.sessions,
      link := s.link.reported (.sessionHeld n x.account p .lineFault x.snapshot.record.holdTime) } := by
  simp only [State.loseLine, found, holds, if_false, unbindLine_eq, State.queueReport_eq]
  simp [State.mapLine, State.mapSession, State.setLine, State.line]
  rfl

/-- A session with hold time 0 closes (R116). -/
theorem loseLine_closes {n : Nat} {x : Session} (found : s.findSession n = some x) (holds : x.snapshot.record.holdTime = 0) :
    s.loseLine n p .lineFault = s.closeSession n .lineFault false := by
  simp only [State.loseLine, found, holds, if_true]

/-- The line's record after a fault that ends its call. -/
def faultedLine (k : FaultKind) (e : PolicyEntry) (l : Line) : Line :=
  shut (judgedLine k e l) (e.destination (e.retryAfter l.retryCount))

theorem destination_ends (ends : e.mode = .latch ∨ e.mode = .retry) (count : Nat) : e.destination count =
    if e.mode = .latch then .latched else if e.retryLimit ≠ 0 ∧ e.retryLimit ≤ count then .latched else .resting e.periodIndex := by
  unfold PolicyEntry.destination
  rcases ends with m | m <;> simp [m]

theorem judged_raised (ends : e.mode = .latch ∨ e.mode = .retry) :
    judged s p k e = { s with
      lines := s.lines.set p (judgedLine k e (s.line p)), sessions := sessionsAt s p k, link := s.link.evented p (.fault k) } := by
  have told : e.mode ≠ .ignore := by rcases ends with m | m <;> simp [m]
  unfold judged
  rw [if_neg told]

/-- A line that may have left the input wait list leaves it. -/
theorem without_behind (c : Prop) [Decidable c] (xs : List Port) : without p (if c then xs else without p xs) = without p xs := by
  split
  · rfl
  · exact without_without p xs

theorem judged_limits : (judged s p k e).link.limits = s.link.limits := by
  unfold judged Link.evented
  dsimp only
  repeat' split
  · rfl
  · exact (Link.reported_fields s.link _).1
  · rfl

/-- The reports of a close behind the fault's event (R139, R164). -/
theorem closeReports_judged (ends : e.mode = .latch ∨ e.mode = .retry) (x : Session) (w : Cause) (b : Nat) :
    (judged s p k e).closeReports (sessionAt k x) w b =
      ({ s with link := s.link.evented p (.fault k) } : State).closeReports x w b := by
  obtain ⟨number, account, line_x, _⟩ := sessionAt_fields k x
  have length : (judged s p k e).sessions.length = s.sessions.length := length_sessionsAt s p k
  have link := congrArg State.link (judged_raised (s := s) (p := p) (k := k) ends)
  unfold State.closeReports
  rw [number, account, line_x, length, link]
  rfl

/-- A dialogue on the line ends (R62, R108). -/
theorem fault_ends_dialogue {d : Dialogue} (connected : (s.line p).state = .connected) (h : faults s p i k e)
    (ends : e.mode = .latch ∨ e.mode = .retry) (hd : (s.line p).holder = .dialogue d) :
    exec i s = .next { s with
      lines := s.lines.set p (faultedLine k e (s.line p)), inputWait := without p s.inputWait,
      waitQueue := without p s.waitQueue, link := (s.link.evented p (.fault k)).evented p (.callEnded .dropped) } := by
  have none_lively := sessionsAt_of_no_session (s := s) (p := p) k (by simp [hd])
  have told := tellHolder_dialogue (s := judged s p k e) (p := p) (d := d) (by rw [judged_line]; exact hd) .lineFault
  rw [judged_line, judged_raised ends, Vector.set_set, none_lively] at told
  rw [exec_ends connected h ends, judged_raised ends, none_lively, told,
    drop_after (s := s) (l := { judgedLine k e (s.line p) with holder := .none }) _ rfl connected]
  simp only [without_without]
  rfl

/-- A session with a hold time is held (R62, R116). -/
theorem fault_holds_session {n : Nat} {x : Session} (connected : (s.line p).state = .connected) (h : faults s p i k e)
    (ends : e.mode = .latch ∨ e.mode = .retry) (held : (s.line p).holder = .session n) (found : s.findSession n = some x)
    (holds : x.snapshot.record.holdTime ≠ 0) :
    exec i s = .next { s with
      lines := s.lines.set p (faultedLine k e (s.line p)), inputWait := without p s.inputWait,
      waitQueue := without p s.waitQueue,
      sessions := changeFirst (fun y => y.number == n) (parked x.snapshot.record.holdTime) (sessionsAt s p k),
      link := ((s.link.evented p (.fault k)).reported
        (.sessionHeld n x.account p .lineFault x.snapshot.record.holdTime)).evented p (.callEnded .dropped) } := by
  obtain ⟨_, account, _, snapshot⟩ := sessionAt_fields k x
  have line := judged_line s p k e
  rw [judged_raised ends] at line
  have told := loseLine_held (s := judged s p k e) (p := p) ((findSession_struck k held).1 x found) (by rw [snapshot]; exact holds)
  rw [judged_raised ends, line, Vector.set_set, account, snapshot] at told
  have holder := tellHolder_session (s := judged s p k e) (p := p) (n := n) (by rw [judged_line]; exact held) .lineFault
  rw [judged_raised ends] at holder
  rw [exec_ends connected h ends, judged_raised ends, holder, told,
    drop_after (s := s) (l := { unbound (judgedLine k e (s.line p)) with output := [], unreported := [], fill := 0 }) _ rfl
      ((unbound_state _).trans connected)]
  have line_shut : shut { unbound (judgedLine k e (s.line p)) with output := [], unreported := [], fill := 0 }
      (e.destination (e.retryAfter (s.line p).retryCount)) = faultedLine k e (s.line p) := shut_unbound _ _
  simp only [line_shut, without_behind]

/-- A session with hold time 0 closes (R62, R116, R121). -/
theorem fault_closes_session {n : Nat} {x : Session} (connected : (s.line p).state = .connected) (h : faults s p i k e)
    (ends : e.mode = .latch ∨ e.mode = .retry) (held : (s.line p).holder = .session n) (found : s.findSession n = some x)
    (bound : x.boundLine = some p) (holds : x.snapshot.record.holdTime = 0)
    (nobody : s.waitQueue = [] ∨ s.link.limits.hostSlots < s.sessions.length) :
    ∃ t b, exec i s = .next t ∧ t.lines = s.lines.set p (faultedLine k e (s.line p))
      ∧ t.sessions = s.sessions.eraseP (fun y => y.number == n) ∧ t.bills = s.bills ++ [b] ∧ b.session = n ∧ b.cause = .lineFault
      ∧ t.inputWait = without p s.inputWait ∧ t.waitQueue = without p s.waitQueue
      ∧ (t.tariff.band = s.tariff.band ∨ t.tariff.band + 1 = s.tariff.band →
          t.link = (({ s with link := s.link.evented p (.fault k) } : State).closeReports x .lineFault
            t.tariff.band).evented p (.callEnded .dropped))
      ∧ (s.bandSettled → t.tariff.band = s.tariff.steps.fallen s.tariff.band (s.sessions.length - 1)) := by
  obtain ⟨_, _, line_x, snapshot⟩ := sessionAt_fields k x
  have line := judged_line s p k e
  have found' : (judged s p k e).findSession n = some (sessionAt k x) := (findSession_struck k held).1 x found
  have holder := tellHolder_session (s := judged s p k e) (p := p) (n := n) (by rw [line]; exact held) .lineFault
  have closes := loseLine_closes (s := judged s p k e) (p := p) found' (by rw [snapshot]; exact holds)
  have length : (judged s p k e).sessions.length = s.sessions.length := length_sessionsAt s p k
  obtain ⟨b, lines, sessions, bills, session, cause, inputWait, waitQueue, link, band⟩ :=
    closeSession_fields (s := judged s p k e) .lineFault found' (line_x.trans bound)
      (by rw [judged_limits, length]; exact nobody)
  have run := exec_ends connected h ends
  rw [holder, closes] at run
  have erased := eraseP_sessionsAt s p k held
  rw [line] at lines inputWait
  generalize (judged s p k e).closeSession n .lineFault false = u at *
  have lines' : u.lines = s.lines.set p (unbound (judgedLine k e (s.line p))) := lines.trans (Vector.set_set ..)
  rw [drop_after (s := s) _ lines' ((unbound_state _).trans connected)] at run
  refine ⟨_, b, run, congrArg (s.lines.set p) (shut_unbound _ _), sessions.trans erased, bills, session, cause, ?_,
    congrArg (without p) waitQueue, fun moves => ?_, fun settled => ?_⟩
  · exact (congrArg (without p) inputWait).trans (without_behind _ _)
  · exact congrArg (Link.evented · p (.callEnded .dropped)) ((link moves).trans (closeReports_judged ends x .lineFault _))
  · have settles : (judged s p k e).bandSettled := by
      unfold State.bandSettled
      rw [length]
      exact settled
    exact (band settles).trans (by rw [length]; rfl)

/-! ## The call goes on under REPORT and IGNORE (R59, R61) -/

/-- The line's record after a fault with which the call goes on. -/
def reportedLine (k : FaultKind) (e : PolicyEntry) (l : Line) : Line :=
  { l with
    space := if k = .longSpace then .longSpace else .none, noiseCount := if k = .noise then 0 else l.noiseCount,
    lastEvent := if e.mode = .report then some (.fault k) else l.lastEvent }

theorem judged_goes_on (goes_on : e.mode = .report ∨ e.mode = .ignore) :
    judged s p k e = { s with
      lines := s.lines.set p (reportedLine k e (s.line p)), sessions := sessionsAt s p k,
      link := if e.mode = .report then s.link.evented p (.fault k) else s.link } := by
  rcases goes_on with m | m <;>
    simp [judged, judgedLine, reportedLine, m, spaceAt, noiseAt, PolicyEntry.retryAfter]

/-- The NOISE fault ends nothing: the error character is substituted or goes no further (R25). -/
theorem noise_goes_on {c : Code} {bit : Bool} (connected : (s.line p).state = .connected) (error : errs (s.line p) p c bit i)
    (limit : s.policies.noise.noiseLimit ≤ (s.line p).noiseCount + 1)
    (goes_on : s.policies.noise.mode = .report ∨ s.policies.noise.mode = .ignore) :
    exec i s = .next (substituted (judged s p .noise s.policies.noise) p false (s.line p).substitute) := by
  have harmless : FaultKind.noise.endsCall s.policies.noise.mode = false := by rcases goes_on with m | m <;> rw [m] <;> rfl
  rw [exec_noise connected error limit, takeFault_goes_on (e := s.policies.noise) rfl harmless, harmless]

/-- A character received after the NOISE fault meets the state that the fault leaves, its sign of life already given. -/
theorem received_judged (goes_on : e.mode = .report ∨ e.mode = .ignore) (t : State)
    (ht : t = { s with
      lines := s.lines.set p (reportedLine .noise e (s.line p)),
      link := if e.mode = .report then s.link.evented p (.fault .noise) else s.link }) :
    received t p = judged s p .noise e := by
  have line : t.line p = reportedLine .noise e (s.line p) := by simp [ht, State.line]
  rw [judged_goes_on goes_on, received, line, ht]
  simp [reportedLine, sessionsAt]

theorem longSpace_goes_on (connected : (s.line p).state = .connected)
    (goes_on : s.policies.longSpace.mode = .report ∨ s.policies.longSpace.mode = .ignore) :
    exec (.longSpace p) s = .next (judged s p .longSpace s.policies.longSpace) := by
  have harmless : FaultKind.longSpace.endsCall s.policies.longSpace.mode = false := by
    rcases goes_on with m | m <;> rw [m] <;> rfl
  rw [exec_longSpace connected, takeFault_goes_on (e := s.policies.longSpace) rfl harmless]

end

/-- Lines of which one was written. -/
theorem line_of_lines {s t : State} {p : Port} {l : Line} (h : t.lines = s.lines.set p l) (q : Port) :
    t.line q = if q = p then l else s.line q := by
  have written : t.line q = (s.setLine p l).line q := State.line_congr h q
  rw [written]
  split
  · next e => rw [e, State.line_setLine_same]
  · next e => exact State.line_setLine_ne s p q l e

/-- Settles O19: under LATCH and RETRY the call ends by what holds the line, and under REPORT and IGNORE it goes on. -/
theorem faultsInConnected : Obligations.FaultsInConnected := by
  intro s p i k e count ended connected h hcount hended
  have h : faults s p i k e := h
  refine ⟨fun ends => ?ends, fun goes_on l a hl ha => ?goes_on⟩
  case ends =>
    have count_eq : count = e.retryAfter (s.line p).retryCount := hcount
    have ended_eq : ended = faultedLine k e (s.line p) := by
      rw [hended, count_eq, ← destination_ends ends]
      rfl
    clear hended
    subst ended_eq
    refine ⟨fun d hd => fault_ends_dialogue connected h ends hd, fun n x held found holds => ?_,
      fun n x held found bound holds nobody => ?_⟩
    · obtain ⟨same, others⟩ := findSession_struck k held
      refine ⟨_, fault_holds_session connected h ends held found holds, rfl, ?_, fun m hm => ?_⟩
      · rw [← sessionAt_held]
        exact (struck s p k).findSession_mapSession n (parked _) _ (same x found) rfl
      · exact ((struck s p k).findSession_mapSession_ne n m (parked _) (fun _ => rfl) hm).trans (others m hm)
    · obtain ⟨t, b, run, lines, rest⟩ := fault_closes_session connected h ends held found bound holds nobody
      exact ⟨t, b, run, line_of_lines lines, rest⟩
  case goes_on =>
    have state_eq (xs : List Session) : ({ s with lines := s.lines.set p l, sessions := xs, link := a } : State) =
        { s with
          lines := s.lines.set p (reportedLine k e (s.line p)), sessions := xs,
          link := if e.mode = .report then s.link.evented p (.fault k) else s.link } := by rw [hl, ha]; rfl
    refine ⟨fun known => ?_, fun noise on b accepted => ?_, fun noise off => ?_⟩
    · rw [state_eq s.sessions]
      rcases h with ⟨rfl, rfl, rfl⟩ | ⟨rfl, rfl, limit, c, bit, error⟩
      · rw [longSpace_goes_on connected goes_on, judged_goes_on goes_on]
        rfl
      · obtain ⟨d, hd, discarded⟩ := known.resolve_left nofun
        have stays : substituted (judged s p .noise s.policies.noise) p false (s.line p).substitute =
            judged s p .noise s.policies.noise := by
          rcases discarded with off | greeting
          · exact substituted_off _ p off
          · have deliver := deliver_greeting (s := judged s p .noise s.policies.noise) (p := p) (c := 42#7) (d := d)
              (by rw [judged_line]; exact hd) greeting
            simp only [substituted, Bool.false_eq_true, deliver, ite_self]
        rw [noise_goes_on connected error limit goes_on, stays, judged_goes_on goes_on,
          sessionsAt_of_no_session _ (by simp [hd])]
    · rcases h with ⟨rfl, _⟩ | ⟨rfl, rfl, limit, c, bit, error⟩
      · exact absurd noise nofun
      · have line : State.line { s with lines := s.lines.set p l, link := a } p = l := by simp [State.line]
        rw [receive_accepted _ p 42#7 b (by rw [line, hl]; exact connected) (by rw [line, hl]; exact accepted),
          received_judged goes_on _ (state_eq s.sessions), noise_goes_on connected error limit goes_on, substituted_on _ p on]
    · rcases h with ⟨rfl, _⟩ | ⟨rfl, rfl, limit, c, bit, error⟩
      · exact absurd noise nofun
      · have run := noise_goes_on connected error limit goes_on
        rw [substituted_off _ p off, judged_goes_on goes_on, ← state_eq] at run
        exact ⟨_, run, rfl, lively_of_no_session, fun n x held found isOpen => by
          rw [← refresh_open isOpen]; exact findSession_lively held found⟩

end Sys2Proof.Machine.InOut
end


-- SET FAULT POLICY (R56).
section
namespace Sys2Proof.Machine.InOut

/-! ## Values brought into their range (R169) -/

theorem clampTo_eq {lo hi : Nat} (h : lo ≤ hi) (v : Nat) : clampTo lo hi v = max lo (min hi v) := by
  unfold clampTo
  split_ifs <;> omega

theorem byteOf_toNat (b : Byte) : byteOf b.toNat = b := by
  rw [byteOf, BitVec.ofNat_toNat, BitVec.setWidth_eq]

/-! ## What SET FAULT POLICY carries (R56, R181) -/

theorem readFaultKind_eq_some {k : Byte} {kind : FaultKind} (h : kind.code = k.toNat) : readFaultKind k = some kind := by
  unfold readFaultKind
  rw [← h]
  cases kind <;> rfl

theorem readFaultKind_eq_none {k : Byte} (h : 4 < k.toNat) : readFaultKind k = none := by
  unfold readFaultKind
  split
  case h_6 => rfl
  all_goals omega

theorem readPolicyMode_eq_some {m : Byte} {mode : PolicyMode} (h : mode.code = m.toNat) : readPolicyMode m = some mode := by
  unfold readPolicyMode
  rw [← h]
  cases mode <;> rfl

theorem readPolicyMode_eq_none {m : Byte} (h : 3 < m.toNat) : readPolicyMode m = none := by
  unfold readPolicyMode
  split
  case h_5 => rfl
  all_goals omega

/-- The entry that SET FAULT POLICY carries, as sent. -/
def sentEntry (kind : FaultKind) (mode : PolicyMode) (i r n : Byte) : PolicyEntry :=
  ⟨mode, i.toNat, r.toNat, if kind = .noise then n.toNat else 0⟩

theorem readPolicy_eq_some {k m : Byte} {kind : FaultKind} {mode : PolicyMode} (hk : kind.code = k.toNat)
    (hm : mode.code = m.toNat) (i r n : Byte) : readPolicy [k, m, i, r, n] = some (kind, sentEntry kind mode i r n) := by
  simp only [readPolicy, readFaultKind_eq_some hk, readPolicyMode_eq_some hm, sentEntry]

theorem readPolicy_eq_none {k m : Byte} (h : 4 < k.toNat ∨ 3 < m.toNat) (i r n : Byte) :
    readPolicy [k, m, i, r, n] = none := by
  rcases h with kind | mode
  · simp only [readPolicy, readFaultKind_eq_none kind]
  · simp only [readPolicy, readPolicyMode_eq_none mode]
    cases readFaultKind k <;> rfl

/-! ## The entry as it stands after clamping (R56) -/

theorem clamp_sentEntry (kind : FaultKind) (mode : PolicyMode) (i r n : Byte) :
    (sentEntry kind mode i r n).clamp kind =
      ⟨mode, min 7 i.toNat, min 15 r.toNat, if kind = .noise then max 1 (min 63 n.toNat) else 0⟩ := by
  by_cases noise : kind = .noise <;>
    simp [PolicyEntry.clamp, sentEntry, clampTo_eq, noise]

theorem clamp_sentEntry_ne_iff (kind : FaultKind) (mode : PolicyMode) (i r n : Byte) :
    (sentEntry kind mode i r n).clamp kind ≠ sentEntry kind mode i r n ↔
      7 < i.toNat ∨ 15 < r.toNat ∨ (kind = .noise ∧ (n.toNat = 0 ∨ 63 < n.toNat)) := by
  rw [clamp_sentEntry, sentEntry, ne_eq, PolicyEntry.mk.injEq]
  by_cases noise : kind = .noise
  · simp only [noise, if_true, true_and]
    omega
  · simp only [noise, if_false, false_and, or_false, and_true, true_and]
    omega

/-- The reply says whether a field was replaced (R56, R169). -/
theorem doneOr_clamp_sentEntry (kind : FaultKind) (mode : PolicyMode) (i r n : Byte) :
    doneOr ((sentEntry kind mode i r n).clamp kind ≠ sentEntry kind mode i r n) =
      if 7 < i.toNat ∨ 15 < r.toNat ∨ (kind = .noise ∧ (n.toNat = 0 ∨ 63 < n.toNat)) then .clamped else .done := by
  simp only [doneOr, decide_eq_true_eq]
  exact if_congr (clamp_sentEntry_ne_iff kind mode i r n) rfl rfl

theorem policyBytes_eq {k m : Byte} {kind : FaultKind} {e : PolicyEntry} (hk : kind.code = k.toNat)
    (hm : e.mode.code = m.toNat) (other : kind ≠ .noise → e.noiseLimit = 0) :
    policyBytes kind e =
      [k, m, BitVec.ofNat 8 e.periodIndex, BitVec.ofNat 8 e.retryLimit, BitVec.ofNat 8 e.noiseLimit] := by
  have limit : (if kind = .noise then e.noiseLimit else 0) = e.noiseLimit := by
    split_ifs with noise
    · rfl
    · exact (other noise).symm
  rw [policyBytes, hk, hm, limit, byteOf_toNat, byteOf_toNat]
  rfl

/-! ## The order, carried out -/

/-- An order with a listed kind and mode replaces that kind's entry by the clamped one and is answered with it (R56). -/
theorem orderSetFaultPolicy_listed (s : State) {k m : Byte} {kind : FaultKind} {mode : PolicyMode} (hk : kind.code = k.toNat)
    (hm : mode.code = m.toNat) (i r n : Byte) :
    orderSetFaultPolicy [k, m, i, r, n] s.heard =
      ({ s with policies := s.policies.replace kind ((sentEntry kind mode i r n).clamp kind) } : State).replied 0x07#8
        (doneOr ((sentEntry kind mode i r n).clamp kind ≠ sentEntry kind mode i r n))
        (policyBytes kind ((sentEntry kind mode i r n).clamp kind)) := by
  rw [orderSetFaultPolicy, readPolicy_eq_some hk hm]
  rfl

theorem orderSetFaultPolicy_unlisted (s : State) {k m : Byte} (h : 4 < k.toNat ∨ 3 < m.toNat) (i r n : Byte) :
    orderSetFaultPolicy [k, m, i, r, n] s.heard = s.replied 0x07#8 .badValue [] := by
  rw [orderSetFaultPolicy, readPolicy_eq_none h]
  exact s.refuse_heard _ _

/-- Settles O36: the order is read, its entry is clamped, and the table and the reply take what stands. -/
theorem setFaultPolicyReplacesTheEntry : Obligations.SetFaultPolicyReplacesTheEntry := by
  intro s k m i r n ready
  have run : exec (.setFaultPolicy [k, m, i, r, n]) s = .next (orderSetFaultPolicy [k, m, i, r, n] s.heard) :=
    congrArg _ (s.takeOrder_ready _ _ _ ready)
  refine ⟨fun kind mode e hk hm he => ?_, fun unlisted => ?_⟩
  · have clamped : (sentEntry kind mode i r n).clamp kind = e := by rw [clamp_sentEntry, he]
    have bytes := policyBytes_eq (e := e) hk (by rw [he]; exact hm) (fun other => by rw [he]; exact if_neg other)
    rw [run, orderSetFaultPolicy_listed s hk hm, doneOr_clamp_sentEntry, clamped, bytes]
    cases kind <;> rfl
  · rw [run, orderSetFaultPolicy_unlisted s unlisted]

end Sys2Proof.Machine.InOut
end

-- What every step keeps of balances, class records, meters and bills.
section
namespace Sys2Proof.Machine.Accounts

/-! ## What the money invariants ask of each record -/

/-- An account's balance and charged total lie in their range (R69, R84). -/
def InRange (a : Account) : Prop := a.balance ≤ 16777215 ∧ a.chargedTotal ≤ 16777215

/-- A session's snapshot, and its meter under it, are sound (R86, R143). -/
def Metered (x : Session) : Prop := x.snapshot.record.sound ∧ x.meter.sound x.snapshot.record

/-- A bill's charged units are its debited, overrun and waived ones (R148, R161). -/
def AddsUp (b : Bill) : Prop :=
  b.meter.charged = b.meter.debited + b.meter.overrun + b.meter.waived ∧ b.meter.charged ≤ 65535

/-- Every record that carries money is as the invariants ask. -/
structure Sound (s : State) : Prop where
  accounts : ∀ a ∈ s.accounts, InRange a
  classes : ∀ c : Fin 4, (s.classes[c]).sound
  sessions : ∀ x ∈ s.sessions, Metered x
  bills : ∀ b ∈ s.bills, AddsUp b

theorem sound_iff (s : State) : Sound s ↔ s.moneyFits ∧ s.metersSound :=
  ⟨fun h => ⟨h.accounts, h.classes, h.sessions, h.bills⟩, fun ⟨money, classes, sessions, bills⟩ =>
    ⟨money, classes, sessions, bills⟩⟩

/-- What the money invariants read of a state. -/
def ledger (s : State) : List Account × Vector ClassRecord 4 × List Session × List Bill :=
  (s.accounts, s.classes, s.sessions, s.bills)

section
variable {s t : State}

/-- States that agree in what the money invariants read are sound alike. -/
theorem Sound.same (h : Sound s) (e : ledger t = ledger s) : Sound t := by
  simp only [ledger, Prod.mk.injEq] at e
  obtain ⟨ha, hc, hx, hb⟩ := e
  obtain ⟨accounts, classes, sessions, bills⟩ := h
  constructor <;> simpa only [ha, hc, hx, hb] using by assumption

/-! ## Changes of tables -/

/-- A change of the first session of a number that keeps what a session record must hold. -/
theorem Sound.mapSession (h : Sound s) (n : Nat) (f : Session → Session)
    (hf : ∀ x, s.findSession n = some x → Metered x → Metered (f x)) : Sound (s.mapSession n f) :=
  ⟨h.accounts, h.classes, forall_changeFirst h.sessions hf, h.bills⟩

theorem Sound.mapSessions (h : Sound s) (f : Session → Session) (hf : ∀ x, Metered x → Metered (f x)) :
    Sound { s with sessions := s.sessions.map f } :=
  ⟨h.accounts, h.classes, List.forall_mem_map.mpr fun x hx => hf x (h.sessions x hx), h.bills⟩

theorem Sound.mapAccount (h : Sound s) (n : Nat) (f : Account → Account)
    (hf : ∀ a, s.findAccount n = some a → InRange a → InRange (f a)) : Sound (s.mapAccount n f) :=
  ⟨forall_changeFirst h.accounts hf, h.classes, h.sessions, h.bills⟩

/-- A change of a session that its snapshot and its units have no part in. -/
theorem Sound.keepSession (h : Sound s) (n : Nat) (f : Session → Session)
    (hf : ∀ x, Metered x → Metered (f x) := by exact fun _ metered => metered) : Sound (s.mapSession n f) :=
  h.mapSession n f fun x _ => hf x

/-- A change of an account that its balance and its charged total have no part in. -/
theorem Sound.keepAccount (h : Sound s) (n : Nat) (f : Account → Account)
    (hf : ∀ a, InRange a → InRange (f a) := by exact fun _ fair => fair) : Sound (s.mapAccount n f) :=
  h.mapAccount n f fun a _ => hf a

theorem Sound.setAccounts (h : Sound s) (xs : List Account) (hx : ∀ a ∈ xs, InRange a) :
    Sound { s with accounts := xs } := ⟨hx, h.classes, h.sessions, h.bills⟩

/-- A session record found in a sound state is sound. -/
theorem Sound.found (h : Sound s) {n : Nat} {x : Session} (e : s.findSession n = some x) : Metered x :=
  h.sessions x (List.mem_of_find?_eq_some e)

/-! Updates that the money invariants do not read, and operations that others end with. -/

theorem Sound.setWaitQueue (h : Sound s) (q : List Port) : Sound { s with waitQueue := q } := h.same rfl

theorem Sound.setLink (h : Sound s) (k : Link) : Sound { s with link := k } := h.same rfl

theorem Sound.setTariff (h : Sound s) (x : Tariff) : Sound { s with tariff := x } := h.same rfl


theorem Sound.queueReport (h : Sound s) (r : Report) : Sound (s.queueReport r) := h.same (by simp [ledger])

theorem Sound.setLine (h : Sound s) (p : Port) (l : Line) : Sound (s.setLine p l) := h.same (by simp [ledger])

theorem Sound.mapLine (h : Sound s) (p : Port) (f : Line → Line) : Sound (s.mapLine p f) := h.same (by simp [ledger])

theorem Sound.queueMessage (h : Sound s) (p : Port) (m : Slot) : Sound (s.queueMessage p m) := h.same (by simp [ledger])

theorem Sound.queueMessageTo (h : Sound s) (o : Option Port) (m : Slot) : Sound (s.queueMessageTo o m) :=
  h.same (by simp [ledger])

theorem Sound.queueMessages (h : Sound s) (xs : List Session) (m : Slot) :
    Sound (xs.foldl (fun q x => q.queueMessageTo x.boundLine m) s) := h.same (by simp [ledger])

theorem Sound.emptyQueue (h : Sound s) (ps : List Port) : Sound (s.emptyQueue ps) := h.same (by simp [ledger])

theorem Sound.reband (h : Sound s) (q : Bool) : Sound (s.reband q) := h.same (by simp [ledger])

theorem Sound.restartTimeout (h : Sound s) : Sound s.restartTimeout := h.same (by simp [ledger])

theorem Sound.dropWithoutMessage (h : Sound s) (p : Port) (d : Destination) : Sound (s.dropWithoutMessage p d) :=
  h.same (by simp [ledger])

theorem Sound.offerRecord (h : Sound s) (p : Port) (n : Nat) (r : InputRecord) : Sound (s.offerRecord p n r) :=
  h.same (by simp [ledger])

theorem Sound.refuseSignOn (h : Sound s) (p : Port) (d : Dialogue) (m : Slot) : Sound (s.refuseSignOn p d m) :=
  h.same (by simp [ledger])

end

/-! ## Units on a meter (R146 to R148) -/

/-- Further units fit under a session's cap and under the ceiling (R146, R147). -/
def Fits (m : Meter) (r : ClassRecord) (k : Nat) : Prop := m.charged + k ≤ 65535 ∧ (r.cap ≠ 0 → m.charged + k ≤ r.cap)

section
variable {m : Meter} {r : ClassRecord}

/-- Units that fit, divided between balance and overrun or waived, leave a sound meter (R148). -/
theorem book_sound (h : m.sound r) {k : Nat} (fits : Fits m r k) (balance : Nat) : (m.book r.free balance k).sound r := by
  unfold Meter.sound at h ⊢
  obtain ⟨ceiling, cap⟩ := fits
  obtain ⟨acc, sum, -, -, free, paid⟩ := h
  cases hf : r.free
  · have := paid hf
    simp only [Meter.book, Bool.false_eq_true, if_false, false_imp_iff, true_imp_iff]
    exact ⟨acc, by omega, ceiling, cap, trivial, this⟩
  · have := free hf
    simp only [Meter.book, if_true, true_imp_iff]
    exact ⟨acc, by omega, ceiling, cap, this, by simp⟩

/-- What the cap and the ceiling let through fits, and leaves a sound meter (R146, R147). -/
theorem limitUnits_sound (h : m.sound r) (hr : r.sound) (k : Nat) :
    (m.limitUnits r.cap k).2.sound r ∧ Fits (m.limitUnits r.cap k).2 r (m.limitUnits r.cap k).1 := by
  have ⟨acc, sum, ceiling, cap, free, paid⟩ := h
  have bound : r.cap ≤ 65535 := hr.1
  unfold Meter.limitUnits Fits
  split
  · next none =>
    split
    · exact ⟨h, by simp only [Config.unitCeiling]; omega, fun some => absurd none some⟩
    · exact ⟨h, by simp only [Config.unitCeiling] at *; omega, fun some => absurd none some⟩
  · next some =>
    have le := cap some
    split
    · exact ⟨⟨Nat.zero_lt_succ 57599, sum, ceiling, cap, free, paid⟩, by dsimp only; omega, fun _ => by dsimp only; omega⟩
    · exact ⟨h, by dsimp only; omega, fun _ => by dsimp only; omega⟩

/-- The units of a second fit, and leave a sound meter (R146). -/
theorem accumulate_sound (h : m.sound r) (hr : r.sound) :
    (m.accumulate r.cap).2.sound r ∧ Fits (m.accumulate r.cap).2 r (m.accumulate r.cap).1 := by
  obtain ⟨acc, rest⟩ := h
  have ⟨_, ceiling, cap, _⟩ := rest
  unfold Meter.accumulate
  split
  · exact ⟨⟨Nat.zero_lt_succ 57599, rest⟩, ceiling, cap⟩
  · exact limitUnits_sound (m := { m with acc := _ }) ⟨Nat.mod_lt _ (Nat.zero_lt_succ 57599), rest⟩ hr _

/-- The class minimum fits (R86, R156). -/
theorem minimum_fits (hr : r.sound) (below : m.charged < r.minCharge) : Fits m r (r.minCharge - m.charged) := by
  obtain ⟨_, small, under⟩ := hr
  exact ⟨by omega, fun some => by have := under some; omega⟩

end

/-! ## The Meter Unit -/

section
variable {s : State}

/-- A session's meter takes units that fit, and its account pays for them (R84, R148). -/
theorem Sound.bookUnits (h : Sound s) (n k : Nat)
    (fits : ∀ x, s.findSession n = some x → Fits x.meter x.snapshot.record k) : Sound (s.bookUnits n k) := by
  unfold State.bookUnits
  split
  · exact h
  · next x found =>
    refine (h.mapSession n _ fun y hy sound => ?_).mapAccount _ _ fun a _ fair => ?_
    · cases found.symm.trans hy
      exact ⟨sound.1, book_sound sound.2 (fits x found) _⟩
    · unfold Account.book restAt
      exact ⟨by dsimp only; split; exacts [fair.1, (Nat.sub_le ..).trans fair.1], Nat.min_le_left ..⟩

/-- A session takes a meter with room for some units, and then the units. -/
theorem Sound.charge (h : Sound s) {n k : Nat} {x : Session} (found : s.findSession n = some x) (f : Session → Meter)
    (sound : (f x).sound x.snapshot.record) (fits : Fits (f x) x.snapshot.record k) :
    Sound ((s.mapSession n (fun y => { y with meter := f y })).bookUnits n k) := by
  refine (h.mapSession n _ fun y hy metered => ?_).bookUnits n k fun y hy => ?_
  · cases found.symm.trans hy
    exact ⟨metered.1, sound⟩
  · cases (s.findSession_mapSession n (fun y => { y with meter := f y }) x found rfl).symm.trans hy
    exact fits

theorem Sound.lowFundsTest (h : Sound s) (n : Nat) : Sound (s.lowFundsTest n) := by
  unfold State.lowFundsTest
  split
  · exact h
  · dsimp only
    split
    · refine Sound.mapSession (h.same ?_) n _ fun _ _ metered => metered
      simp [ledger]
    · exact h

theorem Sound.graceStart (h : Sound s) (n : Nat) : Sound (s.graceStart n).1 := by
  unfold State.graceStart
  repeat' split
  · exact h
  · exact h
  · exact h.keepSession n _
  · exact h

theorem Sound.lowerCountdowns (h : Sound s) (n : Nat) (a b : Bool) : Sound (s.lowerCountdowns n a b).1 := by
  unfold State.lowerCountdowns
  split
  · exact h
  · exact h.keepSession n _

theorem Sound.chargeSecond (h : Sound s) (n : Nat) (ran : Bool) : Sound (s.chargeSecond n ran).1 := by
  unfold State.chargeSecond
  split
  · exact h
  · next x found =>
    have ⟨hr, hm⟩ := h.found found
    have ⟨sound, fits⟩ := accumulate_sound hm hr
    have hg := ((h.charge found (fun _ => (x.meter.accumulate x.snapshot.record.cap).2) sound fits).lowFundsTest n).graceStart n
    dsimp only
    split
    · next e => rw [e] at hg; exact hg
    · next e => rw [e] at hg; exact hg.lowerCountdowns n _ _

theorem Sound.relatch (h : Sound s) (n : Nat) (v : Latch) : Sound (s.relatch n v) := by
  have rate : Sound (s.latchRate n) := h.keepSession n _
  cases v with
  | none => exact h
  | rate => exact rate
  | multiplier => exact h.keepSession n _
  | both => exact rate.keepSession n _

theorem Sound.relatches (h : Sound s) (ns : List Nat) (v : Nat → Latch) :
    Sound (ns.foldl (fun q n => q.relatch n (v n)) s) := by
  induction ns generalizing s with
  | nil => exact h
  | cons n ns ih => exact ih (h.relatch n _)

theorem Sound.balanceChanged (h : Sound s) (a b c : Nat) : Sound (s.balanceChanged a b c) := by
  unfold State.balanceChanged
  split
  · exact h.mapSessions _ fun x metered => (by split; exacts [metered, metered])
  · exact h

theorem Sound.roundSession (h : Sound s) (n : Nat) : Sound (s.roundSession n) := by
  unfold State.roundSession
  split
  · exact h
  · next x found =>
    have ⟨hr, hm⟩ := h.found found
    have ⟨sound, fits⟩ := limitUnits_sound hm hr 1
    split
    · exact h.charge found (fun _ => { (x.meter.limitUnits x.snapshot.record.cap 1).2 with rounded := _ }) sound fits
    · exact h

theorem Sound.applyMinimum (h : Sound s) (n : Nat) : Sound (s.applyMinimum n) := by
  unfold State.applyMinimum
  split
  · exact h
  · next x found =>
    have ⟨hr, hm⟩ := h.found found
    split
    · next below => exact h.charge found (fun y => { y.meter with minApplied := true }) hm (minimum_fits hr below)
    · exact h

theorem Sound.finalize (h : Sound s) (n : Nat) : Sound (s.finalize n) := (h.roundSession n).applyMinimum n

/-! ## Admission, the wait queue and close -/

/-- A new meter is sound under every record. -/
theorem newMeter_sound (rate multiplier : Nat) (r : ClassRecord) :
    ({ rate := rate, multiplier := multiplier } : Meter).sound r := by
  simp [Meter.sound]

theorem Sound.admitLine (h : Sound s) (p : Port) (a : Account) : Sound (s.admitLine p a) := by
  unfold State.admitLine
  dsimp only
  refine Sound.lowFundsTest (Sound.queueReport (Sound.setWaitQueue ?_ _) _) _
  refine Sound.mapLine ?_ p _
  refine Sound.keepSession ?_ _ _
  refine Sound.reband (Sound.keepAccount ?_ a.number _) false
  refine ⟨h.accounts, h.classes, List.forall_mem_append.mpr ⟨h.sessions, ?_⟩, h.bills⟩
  exact List.forall_mem_singleton.mpr ⟨h.classes a.classNo, newMeter_sound _ _ _⟩

theorem Sound.judgeHead (h : Sound s) (p : Port) : Sound (s.judgeHead p) := by
  unfold State.judgeHead
  repeat' split
  · exact h.same (by simp [ledger])
  · exact h.same (by simp [ledger])
  · exact h.same (by simp [ledger])
  · exact h.admitLine p _

theorem Sound.evaluateQueue (h : Sound s) (k : Nat) : Sound (State.evaluateQueue k s) := by
  induction k generalizing s with
  | zero => exact h
  | succ k ih =>
    unfold State.evaluateQueue
    repeat' split
    · exact h
    · exact ih ((h.setWaitQueue _).judgeHead _)
    · exact h

theorem Sound.evaluate (h : Sound s) : Sound s.evaluate := h.evaluateQueue _

/-- The bill of a session takes its meter as it stands (R156). -/
theorem Sound.addBill (h : Sound s) {b : Bill} (sum : AddsUp b) (q : Bool) : Sound (s.addBill b q) := by
  have h1 : Sound { s with bills := s.bills ++ [b] } :=
    ⟨h.accounts, h.classes, h.sessions, List.forall_mem_append.mpr ⟨h.bills, List.forall_mem_singleton.mpr sum⟩⟩
  unfold State.addBill
  dsimp only
  split
  · exact h1.queueReport _
  · exact h1

theorem addsUp_billOf {x : Session} (metered : Metered x) (c : Cause) : AddsUp (s.billOf x c) := by
  obtain ⟨_, _, sum, ceiling, _⟩ := metered
  exact ⟨sum, ceiling⟩

theorem Sound.freeSession (h : Sound s) (n : Nat) (q : Bool) : Sound (s.freeSession n q) := by
  have h1 : Sound { s with sessions := s.sessions.eraseP (fun x => x.number == n) } :=
    ⟨h.accounts, h.classes, fun x hx => h.sessions x (List.mem_of_mem_eraseP hx), h.bills⟩
  unfold State.freeSession
  dsimp only
  split <;> exact h1.same (by simp [ledger])

theorem Sound.closeSession (h : Sound s) (n : Nat) (c : Cause) (q : Bool) : Sound (s.closeSession n c q) := by
  have hf := h.finalize n
  unfold State.closeSession
  dsimp only
  split
  · exact h
  · next x found =>
    have h3 := ((hf.addBill (addsUp_billOf (s := s.finalize n) (hf.found found) c) q).keepAccount x.account
      (fun a => { a with active := a.active - 1 })).freeSession n q
    repeat' split
    · exact h3
    · exact h3.evaluate.queueReport _
    · exact h3.queueReport _

theorem Sound.closeAndAct (h : Sound s) (n : Nat) (c : Cause) : Sound (s.closeAndAct n c) :=
  (h.closeSession n c false).same (by simp [ledger, State.closeAndAct])

theorem Sound.loseLine (h : Sound s) (n : Nat) (p : Port) (r : HeldReason) : Sound (s.loseLine n p r) := by
  unfold State.loseLine
  split
  · exact h
  · dsimp only
    split
    · exact h.closeSession n _ false
    · refine Sound.queueReport (Sound.keepSession ?_ n _) _
      exact h.same (by simp [ledger])

theorem Sound.tellHolder (h : Sound s) (p : Port) (r : HeldReason) : Sound (s.tellHolder p r) := by
  unfold State.tellHolder
  split
  · exact h.loseLine _ p r
  · exact h.same (by simp [ledger])
  · exact h

theorem Sound.takeFault (h : Sound s) (p : Port) (k : FaultKind) : Sound (s.takeFault p k) := by
  have hj : Sound (s.judgeFault p k).1 := h.same (by simp [ledger])
  unfold State.takeFault
  dsimp only
  split
  · exact (hj.tellHolder p _).dropWithoutMessage p _
  · exact hj

theorem Sound.countError (h : Sound s) (p : Port) : Sound (s.countError p).1 := by
  unfold State.countError
  dsimp only
  split
  · exact (h.mapLine p fun l => { l with noiseCount := 0 }).takeFault p _
  · exact h.mapLine p fun l => { l with noiseCount := (s.line p).noiseCount + 1 }

/-! ## Sign-on -/

theorem Sound.applyLockPolicy (h : Sound s) (p : Port) (a : Account) (k : Nat) : Sound (s.applyLockPolicy p a k) := by
  unfold State.applyLockPolicy
  dsimp only
  split
  · exact h.keepAccount _ _
  · exact (h.keepAccount _ _).queueReport _
  · exact (h.keepAccount _ _).queueReport _
  · exact (h.keepAccount _ _).queueReport _

theorem Sound.countFailure (h : Sound s) (p : Port) (a : Account) : Sound (s.countFailure p a) := by
  unfold State.countFailure
  dsimp only
  split
  · exact h.applyLockPolicy p a _
  · exact h.keepAccount _ _

theorem Sound.reattach (h : Sound s) (p : Port) (x : Session) : Sound (s.reattach p x) := by
  unfold State.reattach
  dsimp only
  refine Sound.lowFundsTest (Sound.queueReport (Sound.queueMessage (Sound.mapLine ?_ p _) p _) _) _
  exact h.keepSession _ _

theorem Sound.capacityChecks (h : Sound s) (p : Port) (d : Dialogue) (a : Account) : Sound (s.capacityChecks p d a) := by
  unfold State.capacityChecks
  repeat' split
  · exact h.refuseSignOn p d _
  · exact h.refuseSignOn p d _
  · exact h.admitLine p a
  · exact h.same (by simp [ledger])
  · exact h.same (by simp [ledger])

theorem Sound.accountChecks (h : Sound s) (p : Port) (d : Dialogue) (a : Account) : Sound (s.accountChecks p d a) := by
  unfold State.accountChecks
  repeat' split
  · exact h.refuseSignOn p d _
  · exact h.refuseSignOn p d _
  · exact h.reattach p _
  · exact h.capacityChecks p d a

theorem Sound.judgeRecord (h : Sound s) (p : Port) (d : Dialogue) (text : List Code) (marks : List Nat) (st : RecordStatus) :
    Sound (s.judgeRecord p d text marks st) := by
  unfold State.judgeRecord
  repeat' split
  · exact h.same (by simp [ledger])
  · exact h.refuseSignOn p d _
  · exact h.refuseSignOn p d _
  · exact (h.keepAccount _ _).accountChecks p d _
  · exact h.refuseSignOn p d _
  · exact h.refuseSignOn p d _
  · exact (h.countFailure p _).refuseSignOn p d _
  · exact h.refuseSignOn p d _
  · exact h.refuseSignOn p d _

/-! ## The Tariff Unit and the Link Controller -/

theorem Sound.rateSignal (h : Sound s) (c : Fin 4) (a b : Option Rate) : Sound (s.rateSignal c a b) := by
  unfold State.rateSignal
  split
  · refine Sound.queueMessages (h.mapSessions _ fun x metered => ?_) _ _
    split <;> exact metered
  · refine h.mapSessions _ fun x metered => ?_
    split <;> exact metered
  · exact h

theorem Sound.rateSignals (h : Sound s) (a b : Option Period) : Sound (s.rateSignals a b) :=
  (((h.rateSignal _ _ _).rateSignal _ _ _).rateSignal _ _ _).rateSignal _ _ _

theorem Sound.selectPeriod (h : Sound s) : Sound s.selectPeriod := by
  unfold State.selectPeriod
  repeat' split
  · exact h
  · refine Sound.rateSignals ?_ _ _
    exact h.setTariff _
  · exact h

theorem Sound.switchTariff (h : Sound s) : Sound s.switchTariff := by
  have hp := (h.setTariff { s.tariff with active := s.tariff.standby, activePresent := true, commit := .none }).selectPeriod
  unfold State.switchTariff
  dsimp only
  split
  · exact hp.queueReport _
  · exact hp

theorem Sound.minuteMark (h : Sound s) (wraps : Bool) : Sound (s.minuteMark wraps) := by
  have h1 : Sound (if wraps then { s with tariff := { s.tariff with commit := s.tariff.commit.clearWrap } } else s) := by
    split
    · exact h.setTariff _
    · exact h
  unfold State.minuteMark
  dsimp only
  generalize (if wraps = true then _ else s) = q at h1 ⊢
  refine Sound.selectPeriod ?_
  split
  · exact h1.switchTariff
  · exact h1

theorem Sound.hostDown (h : Sound s) : Sound s.hostDown := by
  unfold State.hostDown State.stallSessions
  refine Sound.emptyQueue (Sound.queueMessages (Sound.mapSessions ?_ _ fun x metered => ?_) _ _) _
  · exact h.setLink _
  · split <;> exact metered

theorem Sound.resumeSessions (h : Sound s) : Sound s.resumeSessions := by
  unfold State.resumeSessions
  refine Sound.queueMessages (h.mapSessions _ fun x metered => ?_) _ _
  split <;> exact metered

theorem Sound.goodFrame (h : Sound s) : Sound s.goodFrame := by
  unfold State.goodFrame
  split
  · exact h.restartTimeout
  · refine Sound.queueReport (Sound.resumeSessions (Sound.restartTimeout ?_)) _
    exact h.setLink _

/-! ## Expiries -/

theorem Sound.answerWindowExpires (h : Sound s) (p : Port) : Sound (s.answerWindowExpires p) := by
  unfold State.answerWindowExpires
  split
  · exact h.takeFault p _
  · exact h

theorem Sound.speedWindowExpires (h : Sound s) (p : Port) : Sound (s.speedWindowExpires p) := by
  unfold State.speedWindowExpires
  split
  · exact h.takeFault p _
  · exact h

theorem Sound.drainLimitExpires (h : Sound s) (p : Port) : Sound (s.drainLimitExpires p) := by
  unfold State.drainLimitExpires
  split
  · exact h.dropWithoutMessage p _
  · exact h

theorem Sound.windowExpires (h : Sound s) (p : Port) : Sound (s.windowExpires p) := by
  unfold State.windowExpires
  split
  · exact h.answerWindowExpires p
  · exact h.speedWindowExpires p
  · exact h.drainLimitExpires p
  · exact h.same (by simp [ledger])
  · exact h.same (by simp [ledger])
  · exact h

theorem Sound.holdExpires (h : Sound s) (n : Nat) : Sound (s.holdExpires n) := by
  unfold State.holdExpires
  repeat' split
  · exact h
  · exact h.closeAndAct n _
  · exact h

theorem Sound.idleLimitExpires (h : Sound s) (n : Nat) : Sound (s.idleLimitExpires n) := by
  unfold State.idleLimitExpires
  repeat' split
  · exact h
  · exact h.closeAndAct n _
  · exact h

theorem Sound.graceExpires (h : Sound s) (n : Nat) : Sound (s.graceExpires n) := by
  unfold State.graceExpires
  repeat' split
  · exact h
  · exact h.closeAndAct n _
  · exact h

theorem Sound.countdownExpires (h : Sound s) (n : Nat) : Sound (s.countdownExpires n) := by
  unfold State.countdownExpires
  repeat' split
  · exact h
  · exact h.closeAndAct n _
  · exact h

theorem Sound.closeAll (h : Sound s) (ns : List Nat) (c : Cause) :
    Sound (ns.foldl (fun q n => q.closeAndAct n c) s) := by
  induction ns generalizing s with
  | nil => exact h
  | cons n ns ih => exact ih (h.closeAndAct n c)

theorem Sound.hostDownLimitExpires (h : Sound s) : Sound s.hostDownLimitExpires := by
  unfold State.hostDownLimitExpires State.loseSessions
  split
  · refine Sound.closeAll ?_ _ _
    exact h.same rfl
  · exact h

theorem Sound.linkTimeoutExpires (h : Sound s) : Sound s.linkTimeoutExpires := by
  unfold State.linkTimeoutExpires
  split
  · exact h.hostDown
  · exact h

theorem Sound.lockExpires (h : Sound s) (a : Nat) : Sound (s.lockExpires a) :=
  h.keepAccount a _ fun x fair => by
    unfold Account.unlockTimed
    split <;> exact fair

/-! ## Second marks -/

theorem Sound.lowered (h : Sound s) : Sound s.advanceClock.countMark := by
  have hc : Sound s.advanceClock := h.same (by simp [ledger])
  refine Sound.same (hc.setAccounts (s.advanceClock.accounts.map Account.countMark) ?_) rfl
  refine List.forall_mem_map.mpr fun a ha => ?_
  unfold Account.countMark
  split <;> exact hc.accounts a ha

theorem Sound.countIdle (h : Sound s) (n : Nat) : Sound (s.countIdle n).1 := by
  unfold State.countIdle
  split
  · exact h
  · have h1 (k : Nat) := h.keepSession n fun y => { y with idle := k }
    dsimp only
    repeat' split
    · exact (h1 _).closeAndAct n _
    · exact Sound.keepSession ((h1 _).queueMessageTo _ _) n _
    · exact h1 _

theorem Sound.sessionShare (h : Sound s) (n : Nat) (ran : Bool) (v : Latch) : Sound (s.sessionShare n ran v) := by
  unfold State.sessionShare
  split
  · exact h
  · split
    · have hc := (h.keepSession n (fun y => { y with metered := restAt Config.maxMoney (y.metered + 1) })).chargeSecond n ran
      dsimp only
      split
      · next e => rw [e] at hc; exact hc.closeAndAct n _
      · next s2 e =>
        rw [e] at hc
        have hi := Sound.countIdle hc n
        dsimp only at hi
        split
        · next e2 => rw [e2] at hi; exact hi
        · next e2 => rw [e2] at hi; exact hi.relatch n v
    · exact Sound.relatch (h.keepSession n _) n v
    · dsimp only
      split
      · exact Sound.closeAndAct (h.keepSession n _) n _
      · exact Sound.relatch (h.keepSession n _) n v

theorem Sound.runTask (h : Sound s) (v : Latch) (x : MarkTask) : Sound (s.runTask v x) := by
  unfold State.runTask
  repeat' split
  · exact h.windowExpires _
  · exact h
  · exact h.same (by simp [ledger])
  · exact h
  · exact h.same (by simp [ledger])
  · exact h
  · exact h.lockExpires _
  · exact h.hostDownLimitExpires
  · exact h
  · exact h.sessionShare _ _ _

theorem Sound.runTasks (h : Sound s) (v : Latch) (xs : List MarkTask) : Sound (s.runTasks v xs) := by
  unfold State.runTasks
  induction xs generalizing s with
  | nil => exact h
  | cons x xs ih => exact ih (h.runTask v x)

theorem Sound.secondMark (h : Sound s) : Sound s.secondMark := by
  have h1 : Sound s.advanceClock.countMark.nextDraw := h.lowered.same (by simp [ledger])
  unfold State.secondMark
  dsimp only
  split
  · exact ((((h1.runTasks _ _).minuteMark _).relatches _ _).runTasks _ _)
  · exact h1.runTasks _ _

/-- The power-up values are sound (R180). -/
theorem sound_powerUp (s : State) : Sound s.powerUp := by
  obtain ⟨classes, sessions, bills⟩ := InOut.metersSound_reset
  exact ⟨fun _ ha => absurd ha List.not_mem_nil, classes, sessions, bills⟩

/-! ## Calls and characters -/

theorem Sound.carrierLost (h : Sound s) (p : Port) : Sound (s.carrierLost p) := by
  unfold State.carrierLost
  dsimp only
  repeat' split
  · exact h.same (by simp [ledger])
  · exact (h.tellHolder p .carrierLost).same (by simp [ledger])
  · exact h.same (by simp [ledger])
  · exact h
  · exact h

theorem Sound.attemptFails (h : Sound s) (p : Port) : Sound (s.attemptFails p) := by
  have hl := h.mapLine p fun _ => { s.line p with searchAttempts := (s.line p).searchAttempts + 1, settling := true }
  unfold State.attemptFails
  dsimp only
  repeat' split
  · exact hl
  · exact hl.takeFault p _
  · exact h

theorem Sound.signalLife (h : Sound s) (p : Port) : Sound (s.signalLife p) := by
  unfold State.signalLife
  split
  · refine h.keepSession _ _ fun x metered => ?_
    split <;> exact metered
  · exact h

theorem Sound.sendEcho (h : Sound s) (p : Port) (on : Bool) (r : Assembled) : Sound (s.sendEcho p on r) := by
  unfold State.sendEcho
  dsimp only
  repeat' split
  all_goals exact h.same (by simp [ledger])

theorem Sound.assembleInput (h : Sound s) (p : Port) (n : Nat) (c : Code) : Sound (s.assembleInput p n c) := by
  have h1 := Sound.sendEcho (h.setLine p { s.line p with
    partialRecord := ((s.line p).partialRecord.assemble (s.line p).settings false c).rest }) p (s.line p).echo
    ((s.line p).partialRecord.assemble (s.line p).settings false c)
  unfold State.assembleInput
  dsimp only
  repeat' split
  · exact h1.mapLine p _
  · exact h1
  · exact (h1.mapLine p _).offerRecord p n _

theorem Sound.assembleSignOn (h : Sound s) (p : Port) (d : Dialogue) (c : Code) : Sound (s.assembleSignOn p d c) := by
  unfold State.assembleSignOn
  dsimp only
  split
  · exact Sound.sendEcho (h.setLine p _) p true _
  · exact (Sound.sendEcho (h.setLine p _) p true _).judgeRecord p d _ _ _

theorem Sound.deliver (h : Sound s) (p : Port) (c : Code) : Sound (s.deliver p c) := by
  unfold State.deliver
  repeat' split
  · exact h
  · exact h
  · exact h.assembleSignOn p _ c
  · exact h.same (by simp [ledger])
  · exact h
  · exact h
  · exact h.same (by simp [ledger])
  · exact h.assembleInput p _ c
  · exact h.same (by simp [ledger])
  · exact h

theorem Sound.receive (h : Sound s) (p : Port) (c : Code) (bit framing : Bool) : Sound (s.receive p c bit framing) := by
  have h1 := h.mapLine p fun l => { l with space := .none }
  have hc := (h1.signalLife p).countError p
  unfold State.receive
  split
  · dsimp only
    split
    · split
      · next e => rw [e] at hc; exact hc
      · next e =>
        rw [e] at hc
        split
        · exact hc.deliver p _
        · exact hc
    · exact (h1.signalLife p).deliver p c
  · exact h1
  · exact h

theorem Sound.breakRecord (h : Sound s) (p : Port) (n : Nat) : Sound (s.breakRecord p n) := by
  unfold State.breakRecord
  dsimp only
  split <;> exact h.same (by simp [ledger])

theorem Sound.breakActs (h : Sound s) (p : Port) : Sound (s.breakActs p) := by
  unfold State.breakActs
  repeat' split
  · exact h
  · exact h.assembleSignOn p _ _
  · exact h
  · exact h
  · exact (h.signalLife p).breakRecord p _
  · exact h

end

/-! ## What the account orders and SET CLASS store -/

/-- Two bytes hold at most 65,535. -/
theorem beNat_pair_le (a b : Byte) : beNat [a, b] ≤ 65535 := by
  have := a.isLt
  have := b.isLt
  simp only [beNat, List.foldl_cons, List.foldl_nil]
  omega

/-- CREDIT ACCOUNT's balance stops at its upper bound (R74). -/
theorem creditBalance_le (balance : Nat) (amount : Int) : creditBalance balance amount ≤ 16777215 := by
  unfold creditBalance Config.maxMoney
  repeat' split
  all_goals omega

/-- LOAD ACCOUNT reads a balance within the bound (R71). -/
theorem readLoaded_balance {body : List Byte} {x : Loaded} (e : readLoaded body = some x) : x.balance ≤ 16777215 := by
  unfold readLoaded at e
  repeat' split at e
  all_goals cases e
  dsimp only
  rw [InOut.clampTo_eq (Nat.zero_le _)]
  simp [Config.maxMoney]

theorem mem_insertAccount {a x : Account} {xs : List Account} (h : x ∈ insertAccount a xs) : x = a ∨ x ∈ xs := by
  induction xs with
  | nil => exact .inl (List.mem_singleton.mp h)
  | cons y ys ih =>
    unfold insertAccount at h
    split at h
    · exact List.mem_cons.mp h
    · rcases List.mem_cons.mp h with rfl | h
      · exact .inr (.head _)
      · exact (ih h).imp_right (.tail _)

/-- SET CLASS stores a record whose minimum keeps to 255 and to a non-zero cap (R86). -/
theorem clamp_sound {r : ClassRecord} (cap : r.cap ≤ 65535) : r.clamp.sound := by
  unfold ClassRecord.sound ClassRecord.clamp storedMinimum
  dsimp only
  split <;> omega

theorem readClassOrder_cap {body : List Byte} {c : Fin 4} {r : ClassRecord} {b : Bool}
    (e : readClassOrder body = some (c, r, b)) : r.cap ≤ 65535 := by
  unfold readClassOrder at e
  repeat' split at e
  all_goals cases e
  exact beNat_pair_le _ _

/-! ## Orders -/

section
variable {s : State}

theorem Sound.placeReply (h : Sound s) (k : Byte) (c : ReplyCode) (d : List Byte) : Sound (s.placeReply k c d) :=
  h.same (by simp [ledger])

theorem Sound.refuse (h : Sound s) (k : Byte) (c : ReplyCode) : Sound (s.refuse k c) := h.placeReply k c []

end

/-- What an order keeps: the money invariants of every state that it finds. -/
def KeepsMoney (order : List Byte → State → State) : Prop := ∀ (body : List Byte) (s : State), Sound s → Sound (order body s)

/-- An order that changes nothing that the money invariants read. -/
def SparesMoney (order : List Byte → State → State) : Prop := ∀ (body : List Byte) (s : State), ledger (order body s) = ledger s

theorem SparesMoney.keeps {order : List Byte → State → State} (spares : SparesMoney order) : KeepsMoney order :=
  fun body s h => h.same (spares body s)

theorem sparesMoney_mark : SparesMoney orderMark := by
  intro body s
  unfold orderMark
  split <;> simp [ledger]

theorem sparesMoney_setReports : SparesMoney orderSetReports := by
  intro body s
  unfold orderSetReports
  split <;> simp [ledger]

theorem sparesMoney_setMessage : SparesMoney orderSetMessage := by
  intro body s
  unfold orderSetMessage
  split <;> simp [ledger]

theorem sparesMoney_setFaultPolicy : SparesMoney orderSetFaultPolicy := by
  intro body s
  unfold orderSetFaultPolicy
  split <;> simp [ledger]

theorem sparesMoney_setLoadSteps : SparesMoney orderSetLoadSteps := by
  intro body s
  unfold orderSetLoadSteps State.storeLoadSteps
  dsimp only
  repeat' split
  all_goals simp [ledger]

theorem sparesMoney_queryAccount : SparesMoney orderQueryAccount := by
  intro body s
  unfold orderQueryAccount
  repeat' split
  all_goals simp [ledger]

theorem sparesMoney_tariffClear : SparesMoney orderTariffClear := by
  intro body s
  unfold orderTariffClear
  repeat' split
  all_goals simp [ledger]

theorem sparesMoney_tariffEntry : SparesMoney orderTariffEntry := by
  intro body s
  unfold orderTariffEntry State.writeStandby
  repeat' split
  all_goals simp [ledger]

theorem sparesMoney_commitTariff : SparesMoney orderCommitTariff := by
  intro body s
  unfold orderCommitTariff
  repeat' split
  all_goals simp [ledger]

theorem sparesMoney_queryTariff : SparesMoney orderQueryTariff := by
  intro body s
  unfold orderQueryTariff
  repeat' split
  all_goals simp [ledger]

theorem sparesMoney_setLine : SparesMoney orderSetLine := by
  intro body s
  unfold orderSetLine State.setCallGroup State.setInputGroup
  repeat' split
  all_goals simp [ledger]

theorem sparesMoney_queryLine : SparesMoney orderQueryLine := by
  intro body s
  unfold orderQueryLine
  split <;> simp [ledger]

theorem sparesMoney_sendText : SparesMoney orderSendText := by
  intro body s
  unfold orderSendText State.sendHostText
  repeat' split
  all_goals simp [ledger]

theorem sparesMoney_querySession : SparesMoney orderQuerySession := by
  intro body s
  unfold orderQuerySession
  repeat' split
  all_goals simp [ledger]

theorem sparesMoney_unknown (kind : Byte) : SparesMoney (orderUnknown kind) := by
  intro body s
  simp [orderUnknown, ledger]

section
variable {s : State}

theorem Sound.serviceOut (h : Sound s) (p : Port) : Sound (s.serviceOut p) := by
  have hr : Sound (s.removeHolder p) := by
    unfold State.removeHolder
    repeat' split
    · exact h.closeSession _ _ _
    · exact h.same (by simp [ledger])
    · exact h
    · exact h
  have h2 := hr.mapLine p Line.outOfService
  unfold State.serviceOut
  dsimp only
  repeat' split
  · exact h
  · exact h2.same (by simp [ledger])
  · exact h2.same (by simp [ledger])

theorem keepsMoney_lineService : KeepsMoney orderLineService := by
  intro body s h
  unfold orderLineService State.serviceIn State.serviceRestore
  split
  · refine h.same ?_
    repeat' split
    all_goals simp [ledger]
  · exact (h.serviceOut _).placeReply _ _ _
  · refine h.same ?_
    repeat' split
    all_goals simp [ledger]
  · exact h.refuse _ _

theorem keepsMoney_dropLine : KeepsMoney orderDropLine := by
  intro body s h
  unfold orderDropLine State.dropCall State.dropConnected
  repeat' split
  · exact (h.dropWithoutMessage _ _).placeReply _ _ _
  · exact (h.dropWithoutMessage _ _).placeReply _ _ _
  · exact (h.closeAndAct _ _).placeReply _ _ _
  · exact h.same (by simp [ledger])
  · exact h.same (by simp [ledger])
  · exact h.refuse _ _
  · exact h.refuse _ _

/-- LOAD ACCOUNT stores a balance within the bound, in a new record with no charged total or in one that it replaces. -/
theorem keepsMoney_loadAccount : KeepsMoney orderLoadAccount := by
  intro body s h
  unfold orderLoadAccount State.loadAccount
  split
  · next x e =>
    have fair := readLoaded_balance e
    repeat' split
    · exact h.refuse _ _
    · refine Sound.placeReply (h.setAccounts _ fun a ha => ?_) _ _ _
      rcases mem_insertAccount ha with rfl | ha
      · exact ⟨fair, Nat.zero_le _⟩
      · exact h.accounts a ha
    · exact (Sound.balanceChanged (h.mapAccount x.number x.overwrite fun a _ was => ⟨fair, was.2⟩) _ _ _).placeReply _ _ _
    · exact h.refuse _ _
  · exact h.refuse _ _

theorem keepsMoney_creditAccount : KeepsMoney orderCreditAccount := by
  intro body s h
  unfold orderCreditAccount
  repeat' split
  · exact h.refuse _ _
  · exact h.refuse _ _
  · refine Sound.placeReply (Sound.balanceChanged (h.mapAccount _ _ ?_) _ _ _) _ _ _
    exact fun a _ was => ⟨creditBalance_le _ _, was.2⟩

theorem keepsMoney_dropAccount : KeepsMoney orderDropAccount := by
  intro body s h
  unfold orderDropAccount
  repeat' split
  · exact h.refuse _ _
  · exact h.refuse _ _
  · exact h.refuse _ _
  · exact Sound.placeReply (h.setAccounts _ fun a ha => h.accounts a (List.mem_of_mem_eraseP ha)) _ _ _

theorem keepsMoney_unlockAccount : KeepsMoney orderUnlockAccount := by
  intro body s h
  unfold orderUnlockAccount
  repeat' split
  · exact h.refuse _ _
  · exact h.refuse _ _
  · exact Sound.placeReply (h.keepAccount _ _) _ _ _

theorem Sound.restartSessions (h : Sound s) : Sound s.restartSessions := by
  unfold State.restartSessions
  have hd : Sound s.nextDraw := h.same (by simp [ledger])
  generalize s.nextDraw = q at hd
  induction s.drawOrder (s.sessions.map (·.number)) generalizing q with
  | nil => exact hd
  | cons n ns ih => exact ih _ (hd.closeSession n _ _)

theorem keepsMoney_restart : KeepsMoney orderRestart := by
  intro body s h
  unfold orderRestart
  split
  · have h1 : Sound s.restartQueues.restartDialogues := h.same rfl
    refine Sound.placeReply ?_ _ _ _
    exact h1.restartSessions.same rfl
  · exact h.refuse _ _

theorem keepsMoney_setClock : KeepsMoney orderSetClock := by
  intro body s h
  unfold orderSetClock State.setClockTo
  split
  · refine Sound.placeReply (Sound.selectPeriod ?_) _ _ _
    exact h.setTariff _
  · exact h.refuse _ _

theorem keepsMoney_setLimits : KeepsMoney orderSetLimits := by
  intro body s h
  unfold orderSetLimits State.storeLimits
  split
  · next x _ =>
    have h1 : Sound ({ s with link := { s.link with limits := x.clamp } }).restartTimeout := (h.setLink _).restartTimeout
    dsimp only
    split
    · exact h1.evaluate.placeReply _ _ _
    · exact h1.placeReply _ _ _
  · exact h.refuse _ _

theorem keepsMoney_setClass : KeepsMoney orderSetClass := by
  intro body s h
  unfold orderSetClass
  split
  · next c r b e =>
    refine Sound.placeReply ?_ _ _ _
    refine ⟨h.accounts, fun d => ?_, h.sessions, h.bills⟩
    by_cases same : c = d
    · subst same
      simpa using clamp_sound (readClassOrder_cap e)
    · have other : (c : Nat) ≠ d := Fin.val_ne_of_ne same
      simpa [Vector.getElem_set, other] using h.classes d
  · exact h.refuse _ _

theorem keepsMoney_endSession : KeepsMoney orderEndSession := by
  intro body s h
  unfold orderEndSession
  repeat' split
  · exact h.refuse _ _
  · exact h.refuse _ _
  · exact (h.closeAndAct _ _).placeReply _ _ _

theorem keepsMoney_takeBill : KeepsMoney orderTakeBill := by
  intro body s h
  unfold orderTakeBill
  repeat' split
  · exact h.placeReply _ _ _
  · next b rest e =>
    refine Sound.placeReply ?_ _ _ _
    exact ⟨h.accounts, h.classes, h.sessions, fun c hc => h.bills c (e ▸ .tail b hc)⟩
  · exact h.refuse _ _

/-! ## Frames -/

theorem keepsMoney_orderFor {kind : Byte} {order : List Byte → State → State} (e : orderFor kind = some order) :
    KeepsMoney order := by
  unfold orderFor at e
  split at e <;> cases e
  · exact sparesMoney_mark.keeps
  · exact keepsMoney_restart
  · exact keepsMoney_setClock
  · exact keepsMoney_setLimits
  · exact sparesMoney_setReports.keeps
  · exact sparesMoney_setMessage.keeps
  · exact sparesMoney_setFaultPolicy.keeps
  · exact keepsMoney_setClass
  · exact sparesMoney_setLoadSteps.keeps
  · exact keepsMoney_loadAccount
  · exact keepsMoney_creditAccount
  · exact keepsMoney_dropAccount
  · exact keepsMoney_unlockAccount
  · exact sparesMoney_queryAccount.keeps
  · exact sparesMoney_tariffClear.keeps
  · exact sparesMoney_tariffEntry.keeps
  · exact sparesMoney_commitTariff.keeps
  · exact sparesMoney_queryTariff.keeps
  · exact keepsMoney_lineService
  · exact sparesMoney_setLine.keeps
  · exact keepsMoney_dropLine
  · exact sparesMoney_queryLine.keeps
  · exact sparesMoney_sendText.keeps
  · exact keepsMoney_endSession
  · exact sparesMoney_querySession.keeps
  · exact keepsMoney_takeBill

theorem Sound.carryOut (h : Sound s) (f : Frame) : Sound (s.carryOut f) := by
  unfold State.carryOut
  repeat' split
  · next e => exact keepsMoney_orderFor e _ _ h.goodFrame
  · exact h.goodFrame.placeReply _ _ _
  · exact h.placeReply _ _ _

theorem Sound.takeBytes (h : Sound s) (bs : List Byte) : Sound (s.takeBytes bs) :=
  State.takeBytes_keeps Sound (fun _ f _ _ h => h.carryOut f) (fun _ _ h => h.setLink _) (fun _ _ _ h => h.setLink _) s bs h

theorem Sound.takeFrame (h : Sound s) (f : Frame) (carry : State → State) (hc : Sound (carry s)) :
    Sound (s.takeFrame f carry) := by
  unfold State.takeFrame State.meetFrame
  repeat' split
  · exact h
  · exact h.setLink _
  · exact hc
  · exact h.takeBytes _

theorem Sound.takeOrder (h : Sound s) (kind : Byte) (body : List Byte) {order : List Byte → State → State}
    (ho : KeepsMoney order) : Sound (s.takeOrder kind body order) := h.takeFrame _ _ (ho _ _ h.goodFrame)

theorem Sound.sendReply (h : Sound s) (r : Reply) : Sound (s.sendReply r) := by
  have h1 := h.setLink { s.link with sending := r.frame, replyPath := none, heldOrder := none }
  unfold State.sendReply
  dsimp only
  split
  · exact h1.carryOut _
  · exact h1

theorem Sound.sendReport (h : Sound s) (r : Report) (rest : List Report) : Sound (s.sendReport r rest) := by
  refine Sound.same (h.setLink { s.link with sending := r.frame s.link.lost, reports := rest, lost := false }) ?_
  simp [ledger, State.sendReport]

/-- A command that is a good frame carries out the order of its KIND, or the answer to an unlisted one (R168). -/
theorem exec_of_frame {c : Instr} {kind : Byte} {body : List Byte} (e : frameOf c = some (kind, body)) (s : State) :
    ∃ order, (orderFor kind = some order ∨ order = orderUnknown kind) ∧ exec c s = .next (s.takeOrder kind body order) := by
  cases c with
  | unknownKind => cases e; exact ⟨_, .inr rfl, rfl⟩
  | _ => cases e <;> exact ⟨_, .inl rfl, rfl⟩

/-- Every command has a next state, which keeps the money invariants. -/
theorem Sound.exec (h : Sound s) (c : Instr) : ∃ t, exec c s = .next t ∧ Sound t := by
  by_cases frame : ∃ f, frameOf c = some f
  · obtain ⟨⟨kind, body⟩, e⟩ := frame
    obtain ⟨order, listed | rfl, run⟩ := exec_of_frame e s
    · exact ⟨_, run, h.takeOrder kind body (keepsMoney_orderFor listed)⟩
    · exact ⟨_, run, h.takeOrder kind body (sparesMoney_unknown kind).keeps⟩
  cases c with
  | powerUp => exact ⟨_, rfl, sound_powerUp s⟩
  | secondMark => exact ⟨_, rfl, h.secondMark⟩
  | answerWindowExpiry p => exact ⟨_, rfl, h.answerWindowExpires p⟩
  | speedWindowExpiry p => exact ⟨_, rfl, h.speedWindowExpires p⟩
  | drainLimitExpiry p => exact ⟨_, rfl, h.drainLimitExpires p⟩
  | guardTimeExpiry p | retryPeriodExpiry p | noiseWindowExpiry p | signOnLimitExpiry p | waitLimitExpiry p
  | ringIndicateChange p _ | ringStart p | abandonTimerExpiry p | carrierDetectChange p _ | settleInterval p | breakPending p =>
    exact ⟨_, rfl, h.same (by simp [ledger])⟩
  | lockTimerExpiry a => exact ⟨_, rfl, h.lockExpires a⟩
  | holdExpiry n => exact ⟨_, rfl, h.holdExpires n⟩
  | idleLimitExpiry n => exact ⟨_, rfl, h.idleLimitExpires n⟩
  | fundsGraceExpiry n => exact ⟨_, rfl, h.graceExpires n⟩
  | closingCountdownExpiry n => exact ⟨_, rfl, h.countdownExpires n⟩
  | hostDownLimitExpiry => exact ⟨_, rfl, h.hostDownLimitExpires⟩
  | linkTimeoutExpiry => exact ⟨_, rfl, h.linkTimeoutExpires⟩
  | ringCompletion p =>
    refine ⟨_, rfl, h.same ?_⟩
    unfold State.ringCompletes
    dsimp only
    repeat' split
    all_goals simp [ledger]
  | ringStuck p =>
    refine ⟨_, rfl, h.same ?_⟩
    unfold State.ringSticks
    split <;> simp [ledger]
  | carrierQualifiedPresent p =>
    refine ⟨_, rfl, h.same ?_⟩
    unfold State.carrierQualifies
    dsimp only
    split <;> simp [ledger]
  | carrierQualifiedLost p => exact ⟨_, rfl, h.carrierLost p⟩
  | speedFound p width eighth =>
    refine ⟨_, rfl, h.same ?_⟩
    unfold State.speedFound
    repeat' split
    all_goals simp [ledger]
  | searchAttemptFailed p f =>
    refine ⟨_, rfl, ?_⟩
    split
    · exact h.attemptFails p
    · exact h
  | characterReceived p c bit => exact ⟨_, rfl, h.receive p c bit false⟩
  | heldCharacterReceived p c bit => exact ⟨_, rfl, h.receive p c bit true⟩
  | breakReceived p =>
    have h1 := h.mapLine p fun l => { l with space := .none }
    refine ⟨_, rfl, ?_⟩
    dsimp only
    repeat' split
    · exact h1
    · exact h1.breakActs p
    · exact h1
  | longSpace p =>
    have h1 := h.mapLine p fun l => { l with space := .longSpace }
    refine ⟨_, rfl, ?_⟩
    split
    · exact h1.takeFault p _
    · exact h1
    · exact h
  | characterSent p =>
    refine ⟨_, rfl, h.same ?_⟩
    unfold State.sendCharacter
    dsimp only
    repeat' split
    all_goals simp [ledger]
  | partMessageSent p m =>
    refine ⟨_, rfl, h.same ?_⟩
    repeat' split
    all_goals simp [ledger]
  | dropDrained p =>
    refine ⟨_, rfl, ?_⟩
    split
    · exact h.dropWithoutMessage p _
    · exact h
  | frameLengthDiscard kind length =>
    refine ⟨_, rfl, ?_⟩
    split
    · exact h
    · exact h.takeBytes _
  | frameBadCheck kind body check => exact ⟨_, rfl, h.takeFrame _ _ (h.placeReply _ _ _)⟩
  | replySendStart =>
    refine ⟨_, rfl, ?_⟩
    split
    · exact h.sendReply _
    · exact h
  | reportSendStart =>
    refine ⟨_, rfl, ?_⟩
    split
    · exact h.sendReport _ _
    · exact h
  | _ => exact absurd ⟨_, rfl⟩ frame

end

/-- Settles O53: every operation of the part keeps `Sound`, and a step is one command. -/
theorem stepKeepsTheMoney : Obligations.StepKeepsTheMoney := by
  intro s t money meters e
  have h := (sound_iff s).mpr ⟨money, meters⟩
  refine (sound_iff t).mp ?_
  unfold step at e
  split at e
  · cases e
    exact h
  · next c rest _ =>
    obtain ⟨t', run, h'⟩ := Sound.exec (s := s.withPending rest) (h.same rfl) c
    rw [run] at e
    cases e
    exact h'

end Sys2Proof.Machine.Accounts
end

-- The password's check value, and the orders on accounts.
section
namespace Sys2Proof.Machine.Accounts

/-! ## The check value of a password (R70) -/

theorem checkValue_append (pw : List Code) (c : Code) : checkValue (pw ++ [c]) = (checkValue pw * 31 + c.toNat) % 65521 := by
  simp [checkValue]

theorem checkValue_le (pw : List Code) : checkValue pw ≤ 65520 := by
  induction pw using List.reverseRecOn with
  | nil => decide
  | append_singleton pw c _ =>
    rw [checkValue_append]
    exact Nat.le_of_lt_succ (Nat.mod_lt _ (Nat.zero_lt_succ 65520))

/-- Settles O23: the check value is a fold over the password, whose step ends in the reduction. -/
theorem checkValueOfAPassword : Obligations.CheckValueOfAPassword :=
  ⟨rfl, checkValue_append, checkValue_le, by decide, by decide⟩

/-! ## What an account order carries (4.3, 11.1) -/

theorem beBytes_two (v : Nat) : beBytes 2 v = [BitVec.ofNat 8 (v / 256), BitVec.ofNat 8 v] := by simp [beBytes]

theorem beBytes_three (v : Nat) :
    beBytes 3 v = [BitVec.ofNat 8 (v / 65536), BitVec.ofNat 8 (v / 256), BitVec.ofNat 8 v] := by simp [beBytes]

theorem readAccountNumber_eq_some {bs : List Byte} (low : 1 ≤ beNat bs) (high : beNat bs ≤ 999999) :
    readAccountNumber bs = some (beNat bs) := by simp [readAccountNumber, isAccountNumber, low, high]

theorem readAccountNumber_eq_none {bs : List Byte} (out : beNat bs = 0 ∨ 999999 < beNat bs) : readAccountNumber bs = none := by
  simp only [readAccountNumber, isAccountNumber, Bool.and_eq_true, decide_eq_true_eq]
  exact if_neg (by omega)

/-- An amount is negative where its first byte is 128 or more (11.1). -/
theorem beSigned_eq (m3 m2 m1 m0 : Byte) :
    beSigned [m3, m2, m1, m0] =
      if 128 ≤ m3.toNat then (beNat [m3, m2, m1, m0] : Int) - 4294967296 else beNat [m3, m2, m1, m0] := by
  have := m2.isLt
  have := m1.isLt
  have := m0.isLt
  simp only [beSigned, beNat, List.foldl_cons, List.foldl_nil]
  split_ifs <;> omega

theorem readClass_eq_some {c : Byte} (h : c.toNat < 4) : readClass c = some ⟨c.toNat, h⟩ := dif_pos h

theorem readClass_eq_none {c : Byte} (h : 3 < c.toNat) : readClass c = none := dif_neg (by omega)

section
variable {s : State} {n : Nat}

/-! ## A change of balance (R75) -/

/-- A session after the balance of account `n` went from `before` to `after`: a raise clears funds warned where the balance is
above the threshold, and a raise from 0 cancels a grace (R75). -/
def raised (n before after : Nat) (y : Session) : Session :=
  if y.account = n ∧ before < after then
    { y with grace := if before = 0 then none else y.grace,
             fundsWarned := if y.snapshot.record.lowFunds < after then false else y.fundsWarned }
  else y

theorem balanceChanged_eq (before after : Nat) :
    s.balanceChanged n before after = { s with sessions := s.sessions.map (raised n before after) } := by
  unfold State.balanceChanged raised
  split
  · next up => simp only [up, and_true]
  · next same => simp only [same, and_false, if_false, List.map_id']

/-- The sessions of other accounts are not handed the change. -/
theorem map_raised_of_ne {xs : List Session} (others : ∀ y ∈ xs, y.account ≠ n) (before after : Nat) :
    xs.map (raised n before after) = xs := by
  refine (List.map_congr_left fun y hy => ?_).trans xs.map_id
  exact if_neg fun both => others y hy both.1

/-! ## UNLOCK ACCOUNT (R77) -/

/-- Settles O41: the record found is the one that is changed. -/
theorem unlockAccountOpensTheAccount : Obligations.UnlockAccountOpensTheAccount := by
  intro s a2 a1 a0 n ready hn low high
  subst hn
  have run : exec (.unlockAccount [a2, a1, a0]) s = .next (orderUnlockAccount [a2, a1, a0] s.heard) :=
    congrArg _ (s.takeOrder_ready _ _ _ ready)
  have read : readNamedAccount [a2, a1, a0] = some (beNat [a2, a1, a0]) := readAccountNumber_eq_some low high
  have find : s.heard.findAccount (beNat [a2, a1, a0]) = s.findAccount (beNat [a2, a1, a0]) := rfl
  rw [run, orderUnlockAccount, read]
  dsimp only
  rw [find]
  refine ⟨fun absent => ?_, fun a found => ?_⟩
  · rw [absent]
    rfl
  · rw [found]
    exact ⟨_, rfl, rfl, s.findAccount_mapAccount _ Account.unlock a found rfl,
      fun m other => s.findAccount_mapAccount_ne _ m Account.unlock (fun _ => rfl) other⟩

/-! ## CREDIT ACCOUNT (R74) -/

theorem creditBalance_eq {balance after : Nat} {amount : Int} (h : (after : Int) = max 0 (min 16777215 (balance + amount))) :
    creditBalance balance amount = after := by
  unfold creditBalance Config.maxMoney
  split_ifs <;> omega

/-- A credit is answered CLAMPED where the balance stopped short of the sum (R74). -/
theorem doneOr_creditClamped {balance after : Nat} {amount : Int}
    (h : (after : Int) = max 0 (min 16777215 (balance + amount))) :
    doneOr (creditClamped balance amount) = if (after : Int) = balance + amount then .done else .clamped := by
  unfold doneOr creditClamped Config.maxMoney
  rw [← ite_not (p := (after : Int) = balance + amount)]
  refine if_congr ?_ rfl rfl
  rw [decide_eq_true_eq]
  omega

theorem readCredit_eq_some {a2 a1 a0 m3 m2 m1 m0 : Byte} (low : 1 ≤ beNat [a2, a1, a0]) (high : beNat [a2, a1, a0] ≤ 999999)
    (least : -16777215 ≤ beSigned [m3, m2, m1, m0]) (most : beSigned [m3, m2, m1, m0] ≤ 16777215) :
    readCredit [a2, a1, a0, m3, m2, m1, m0] = some (beNat [a2, a1, a0], beSigned [m3, m2, m1, m0]) := by
  simp only [readCredit, readAccountNumber_eq_some low high, least, most, and_self, if_true]

theorem readCredit_eq_none {a2 a1 a0 m3 m2 m1 m0 : Byte}
    (out : beNat [a2, a1, a0] = 0 ∨ 999999 < beNat [a2, a1, a0] ∨ beSigned [m3, m2, m1, m0] < -16777215
      ∨ 16777215 < beSigned [m3, m2, m1, m0]) : readCredit [a2, a1, a0, m3, m2, m1, m0] = none := by
  unfold readCredit
  dsimp only
  by_cases number : beNat [a2, a1, a0] = 0 ∨ 999999 < beNat [a2, a1, a0]
  · rw [readAccountNumber_eq_none number]
  · rw [readAccountNumber_eq_some (by omega) (by omega)]
    exact if_neg (by omega)

/-- Settles O40: the balance found is changed, and the sessions of the account are handed the change. -/
theorem creditAccountChangesTheBalance : Obligations.CreditAccountChangesTheBalance := by
  intro s a2 a1 a0 m3 m2 m1 m0 body n amount ready hbody hn hamount
  rw [← beSigned_eq] at hamount
  subst hbody hn hamount
  have run : exec (.creditAccount [a2, a1, a0, m3, m2, m1, m0]) s =
      .next (orderCreditAccount [a2, a1, a0, m3, m2, m1, m0] s.heard) := congrArg _ (s.takeOrder_ready _ _ _ ready)
  have find : s.heard.findAccount (beNat [a2, a1, a0]) = s.findAccount (beNat [a2, a1, a0]) := rfl
  refine ⟨fun out => ?_, fun low high least most => ?_⟩
  · rw [run, orderCreditAccount, readCredit_eq_none out]
    rfl
  · rw [run, orderCreditAccount, readCredit_eq_some low high least most]
    dsimp only
    rw [find]
    refine ⟨fun absent => ?_, fun a found after hafter => ?_⟩
    · rw [absent]
      rfl
    · rw [found]
      dsimp only
      rw [creditBalance_eq hafter, doneOr_creditClamped hafter, balanceChanged_eq, beBytes_three]
      exact ⟨_, rfl, rfl, s.findAccount_mapAccount _ _ a found rfl,
        fun m other => s.findAccount_mapAccount_ne _ m _ (fun _ => rfl) other, rfl⟩

/-! ## DROP ACCOUNT and QUERY ACCOUNT (R76, R78) -/

/-- Before the first record of a number stand records of other numbers; the record removed is that one. -/
theorem eraseP_number {low high : List Account} {a : Account} (ha : a.number = n) (others : ∀ x ∈ low, x.number ≠ n) :
    (low ++ a :: high).eraseP (fun x => x.number == n) = low ++ high := by
  rw [List.eraseP_append_right _ (by simpa using others), List.eraseP_cons_of_pos (by simpa using ha)]

/-- NEXT finds the first of the numbers above the one sent. -/
theorem find_above {low high : List Account} (below : ∀ x ∈ low, x.number ≤ n) (above : ∀ x ∈ high, n < x.number) :
    (low ++ high).find? (fun x => decide (n < x.number)) = high.head? := by
  rw [List.find?_append, List.find?_eq_none.mpr (by simpa using below), Option.none_or]
  cases high with
  | nil => rfl
  | cons a rest => exact List.find?_cons_of_pos (by simpa using above a)

/-- A lock stands in an account's layout as its code and its seconds (11.4). -/
theorem accountLayout_eq (a : Account) :
    a.layout = [(3, a.number), (1, a.classNo.val), (2, a.check), (3, a.balance), (1, a.limit), (1, a.active), (1, a.failures),
      (1, a.lock.code), (2, a.lock.seconds), (1, a.lockRepeats), (3, a.chargedTotal)] := by
  cases e : a.lock <;> simp only [Account.layout, e, LockState.code, LockState.seconds]

/-- QUERY ACCOUNT's reply is the record and the records in the table, field for field (11.4). -/
theorem accountReply_eq (a : Account) (k : Nat) : a.bytes ++ beBytes 2 k = laid (a.layout ++ [(2, k)]) := by
  simp [Account.bytes, accountLayout_eq, laid_cons, beBytes_one]

/-- QUERY ACCOUNT on a form and a number that it can carry (R78). -/
theorem orderQueryAccount_read {body : List Byte} {f : QueryForm} (read : readAccountQuery body = some (f, n)) :
    (s.queriedAccount f n = none → orderQueryAccount body s.heard = s.replied 0x14#8 .notFound []) ∧
    ∀ a, s.queriedAccount f n = some a →
      orderQueryAccount body s.heard = s.replied 0x14#8 .done (laid (a.layout ++ [(2, s.accounts.length)])) := by
  have find : s.heard.queriedAccount f n = s.queriedAccount f n := by cases f <;> rfl
  unfold orderQueryAccount
  rw [read]
  dsimp only
  rw [find]
  refine ⟨fun absent => ?_, fun a found => ?_⟩
  · rw [absent]
    rfl
  · rw [found, ← accountReply_eq]
    rfl

theorem orderQueryAccount_unread {body : List Byte} (read : readAccountQuery body = none) :
    orderQueryAccount body s.heard = s.replied 0x14#8 .badValue [] := by
  rw [orderQueryAccount, read]
  rfl

theorem exec_queryAccount (ready : s.ready) (body : List Byte) :
    exec (.queryAccount body) s = .next (orderQueryAccount body s.heard) := congrArg _ (s.takeOrder_ready _ _ _ ready)

theorem readAccountQuery_following {a2 a1 a0 : Byte} (high : beNat [a2, a1, a0] ≤ 999999) :
    readAccountQuery [1#8, a2, a1, a0] = some (.following, beNat [a2, a1, a0]) := if_pos high

theorem readAccountQuery_exact {a2 a1 a0 : Byte} (low : 1 ≤ beNat [a2, a1, a0]) (high : beNat [a2, a1, a0] ≤ 999999) :
    readAccountQuery [0#8, a2, a1, a0] = some (.exact, beNat [a2, a1, a0]) :=
  congrArg (Option.map _) (readAccountNumber_eq_some low high)

theorem readAccountQuery_unlisted {f : Byte} (h : 1 < f.toNat) (a2 a1 a0 : Byte) : readAccountQuery [f, a2, a1, a0] = none := by
  have form : readForm f = none := by
    unfold readForm
    rw [if_neg, if_neg]
    · rintro rfl; exact absurd h (by decide)
    · rintro rfl; exact absurd h (by decide)
  simp only [readAccountQuery, form]

/-- NEXT after 0 finds the first record, and EXACT does not take 0 (R78). -/
theorem queryAccount_zero (ready : s.ready) (numbered : ∀ a ∈ s.accounts, 1 ≤ a.number) :
    (s.accounts = [] → exec (.queryAccount [1#8, 0#8, 0#8, 0#8]) s = .next (s.replied 0x14#8 .notFound [])) ∧
    (∀ a rest, s.accounts = a :: rest → exec (.queryAccount [1#8, 0#8, 0#8, 0#8]) s = .next (s.replied 0x14#8 .done
        (laid (a.layout ++ [(2, s.accounts.length)])))) ∧
    exec (.queryAccount [0#8, 0#8, 0#8, 0#8]) s = .next (s.replied 0x14#8 .badValue []) := by
  have first : s.queriedAccount .following 0 = s.accounts.head? := find_above (low := []) (by simp) numbered
  have read : readAccountQuery [1#8, 0#8, 0#8, 0#8] = some (.following, 0) := by decide
  obtain ⟨absent, present⟩ := orderQueryAccount_read (s := s) read
  rw [exec_queryAccount ready, exec_queryAccount ready]
  refine ⟨fun empty => ?_, fun a rest e => ?_, ?_⟩
  · rw [absent (first.trans (by rw [empty]; rfl))]
  · rw [present a (first.trans (by rw [e]; rfl))]
  · rw [orderQueryAccount_unread (by decide)]

/-- Settles O42: the record removed, or found, is the first of its number, and the table is in ascending order. -/
theorem dropAndQueryAccount : Obligations.DropAndQueryAccount := by
  refine ⟨fun s ready numbered => queryAccount_zero ready numbered, ?_⟩
  intro s f a2 a1 a0 n ready hn low high
  subst hn
  have run : exec (.dropAccount [a2, a1, a0]) s = .next (orderDropAccount [a2, a1, a0] s.heard) :=
    congrArg _ (s.takeOrder_ready _ _ _ ready)
  have read : readNamedAccount [a2, a1, a0] = some (beNat [a2, a1, a0]) := readAccountNumber_eq_some low high
  have find : s.heard.findAccount (beNat [a2, a1, a0]) = s.findAccount (beNat [a2, a1, a0]) := rfl
  rw [run, orderDropAccount, read]
  dsimp only
  rw [find, exec_queryAccount ready]
  refine ⟨fun absent => ?_, fun a found active => ?_, fun a lower upper found idle table others => ?_, fun found form => ?_,
    fun unlisted => ?_⟩
  · rw [absent]
    rfl
  · rw [found]
    simp only [active, if_true, State.refuse_heard]
  · have number : a.number = beNat [a2, a1, a0] := by simpa using List.find?_some found
    have removed : (s.heard.removeAccount (beNat [a2, a1, a0])) = { s.heard with accounts := lower ++ upper } := by
      rw [State.removeAccount, ← eraseP_number number others, ← table]
      rfl
    rw [found]
    simp only [idle, Nat.lt_irrefl, if_false, removed, beBytes_two]
    rfl
  · obtain ⟨q, read, queried⟩ : ∃ q, readAccountQuery [f, a2, a1, a0] = some (q, beNat [a2, a1, a0]) ∧
        s.queriedAccount q (beNat [a2, a1, a0]) = found := by
      rcases form with ⟨rfl, rfl⟩ | ⟨rfl, lower, upper, table, below, above, rfl⟩
      · exact ⟨_, readAccountQuery_exact low high, rfl⟩
      · exact ⟨_, readAccountQuery_following high, by rw [State.queriedAccount, table, find_above below above]⟩
    obtain ⟨absent, present⟩ := orderQueryAccount_read (s := s) read
    exact ⟨fun e => congrArg _ (absent (queried.trans e)), fun a e => congrArg _ (present a (queried.trans e))⟩
  · rw [orderQueryAccount_unread (readAccountQuery_unlisted unlisted a2 a1 a0)]

/-! ## LOAD ACCOUNT (R71 to R73) -/

/-- A record whose number stands between those of two parts of the table is inserted between them (R72). -/
theorem insertAccount_between {low high : List Account} {a : Account} (below : ∀ x ∈ low, x.number < a.number)
    (above : ∀ x ∈ high, a.number < x.number) : insertAccount a (low ++ high) = low ++ [a] ++ high := by
  induction low with
  | nil =>
    cases high with
    | nil => rfl
    | cons x rest => exact if_pos (above x (.head _))
  | cons x low ih =>
    obtain ⟨first, rest⟩ := List.forall_mem_cons.mp below
    simp only [List.cons_append, insertAccount, Nat.not_lt_of_gt first, if_false, ih rest]

/-- What LOAD ACCOUNT's fields carry: the balance is brought to its bound and the limit into its range (R71). -/
def sent (n : Nat) (c : Fin 4) (check balance limit : Nat) : Loaded :=
  ⟨n, c, check, min 16777215 balance, max 1 (min 4 limit), decide (16777215 < balance ∨ limit = 0 ∨ 4 < limit)⟩

theorem readLoaded_eq_some {a2 a1 a0 c k1 k0 b3 b2 b1 b0 l : Byte} (h : c.toNat < 4) (low : 1 ≤ beNat [a2, a1, a0])
    (high : beNat [a2, a1, a0] ≤ 999999) (check : beNat [k1, k0] ≤ 65520) :
    readLoaded [a2, a1, a0, c, k1, k0, b3, b2, b1, b0, l] =
      some (sent (beNat [a2, a1, a0]) ⟨c.toNat, h⟩ (beNat [k1, k0]) (beNat [b3, b2, b1, b0]) l.toNat) := by
  have limit : max 1 (min 4 l.toNat) ≠ l.toNat ↔ l.toNat = 0 ∨ 4 < l.toNat := by omega
  simp only [readLoaded, readAccountNumber_eq_some low high, readClass_eq_some h, check, if_true, sent, Config.maxMoney,
    InOut.clampTo_eq (Nat.zero_le _), InOut.clampTo_eq (show 1 ≤ 4 by decide), Nat.zero_max, limit]

theorem readLoaded_eq_none {a2 a1 a0 c k1 k0 b3 b2 b1 b0 l : Byte}
    (out : beNat [a2, a1, a0] = 0 ∨ 999999 < beNat [a2, a1, a0] ∨ 65520 < beNat [k1, k0] ∨ 3 < c.toNat) :
    readLoaded [a2, a1, a0, c, k1, k0, b3, b2, b1, b0, l] = none := by
  unfold readLoaded
  dsimp only
  by_cases number : beNat [a2, a1, a0] = 0 ∨ 999999 < beNat [a2, a1, a0]
  · rw [readAccountNumber_eq_none number]
  · rw [readAccountNumber_eq_some (by omega) (by omega)]
    by_cases cls : 3 < c.toNat
    · rw [readClass_eq_none cls]
    · rw [readClass_eq_some (by omega)]
      exact if_neg (by omega)

/-- A new number finds the table full, or its place between the numbers below and above it (R72). -/
theorem loadAccount_new {x : Loaded} (absent : s.findAccount x.number = none) :
    (2048 ≤ s.accounts.length → s.heard.loadAccount x = s.replied 0x10#8 .full []) ∧
    (s.accounts.length < 2048 → ∀ low high : List Account, s.accounts = low ++ high → (∀ a ∈ low, a.number < x.number) →
      (∀ a ∈ high, x.number < a.number) →
      s.heard.loadAccount x = ({ s with accounts := low ++ [x.fresh] ++ high } : State).replied 0x10#8 (doneOr x.clamped)
        [0#8, BitVec.ofNat 8 ((s.accounts.length + 1) / 256), BitVec.ofNat 8 (s.accounts.length + 1)]) := by
  have find : s.heard.findAccount x.number = none := absent
  rw [State.loadAccount, find]
  refine ⟨fun full => if_pos full, fun room low high table below above => ?_⟩
  have count : (low ++ [x.fresh] ++ high).length = s.accounts.length + 1 := by
    rw [table]
    simp only [List.length_append, List.length_singleton]
    omega
  have inserted : insertAccount x.fresh s.heard.accounts = low ++ [x.fresh] ++ high := by
    rw [← insertAccount_between (a := x.fresh) below above, ← table]
    rfl
  refine (if_neg (Nat.not_le_of_lt room)).trans ?_
  simp only [inserted, State.loadReply, count, beBytes_two]
  rfl

/-- A record in use is replaced only under its own class and with a limit no lower than its active count (R73). -/
theorem accepted_iff {x : Loaded} {a : Account} :
    x.accepted a = true ↔ a.active = 0 ∨ (x.classNo = a.classNo ∧ a.active ≤ x.limit) := by
  simp [Loaded.accepted]

theorem loadAccount_refused {x : Loaded} {a : Account} (found : s.findAccount x.number = some a)
    (refused : x.accepted a = false) : s.heard.loadAccount x = s.replied 0x10#8 .inUse [] := by
  have find : s.heard.findAccount x.number = some a := found
  rw [State.loadAccount, find]
  simp only [refused, Bool.false_eq_true, if_false, State.refuse_heard]

/-- A record in the table has its loaded fields replaced, and its sessions are handed the raise (R73, R75). -/
theorem loadAccount_replaces {x : Loaded} {a : Account} (found : s.findAccount x.number = some a)
    (accepted : x.accepted a = true) : ∃ t, s.heard.loadAccount x = t ∧
      t = ({ s with accounts := t.accounts, sessions := t.sessions } : State).replied 0x10#8 (doneOr x.clamped)
        [1#8, BitVec.ofNat 8 (s.accounts.length / 256), BitVec.ofNat 8 s.accounts.length] ∧
      t.findAccount x.number = some (x.overwrite a) ∧ (∀ m, m ≠ x.number → t.findAccount m = s.findAccount m) ∧
      t.sessions = s.sessions.map (raised x.number a.balance x.balance) := by
  have find : s.heard.findAccount x.number = some a := found
  have count : (s.heard.mapAccount x.number x.overwrite).accounts.length = s.accounts.length := State.length_mapAccount ..
  rw [State.loadAccount, find]
  simp only [accepted, if_true, State.loadReply, balanceChanged_eq, count, beBytes_two]
  exact ⟨_, rfl, rfl, s.findAccount_mapAccount _ x.overwrite a found rfl,
    fun m other => s.findAccount_mapAccount_ne _ m x.overwrite (fun _ => rfl) other, rfl⟩

/-- Settles O39: what the order carries is judged, and the record is inserted in its place or replaced. -/
theorem loadAccountInsertsOrReplaces : Obligations.LoadAccountInsertsOrReplaces := by
  intro s a2 a1 a0 c k1 k0 b3 b2 b1 b0 l body n balance limit code ready hbody hn hbalance hlimit hcode
  subst hbody hn hbalance hlimit
  have run : exec (.loadAccount [a2, a1, a0, c, k1, k0, b3, b2, b1, b0, l]) s =
      .next (orderLoadAccount [a2, a1, a0, c, k1, k0, b3, b2, b1, b0, l] s.heard) := congrArg _ (s.takeOrder_ready _ _ _ ready)
  refine ⟨fun out => ?_, fun h low high check => ?_⟩
  · rw [run, orderLoadAccount, readLoaded_eq_none out]
    rfl
  rw [run, orderLoadAccount, readLoaded_eq_some h low high check]
  dsimp only
  have answer : doneOr (sent (beNat [a2, a1, a0]) ⟨c.toNat, h⟩ (beNat [k1, k0]) (beNat [b3, b2, b1, b0]) l.toNat).clamped =
      code := by simp only [hcode, doneOr, sent, decide_eq_true_eq]
  rw [← answer]
  refine ⟨fun absent full => congrArg _ ((loadAccount_new absent).1 full),
    fun absent room lower upper table below above => congrArg _ ((loadAccount_new absent).2 room lower upper table below above),
    fun a found idle nobody => ?_, fun a found active same_class within => ?_, fun a found active refused => ?_⟩
  · obtain ⟨t, load, rest, record, others, sessions⟩ := loadAccount_replaces
      (x := sent (beNat [a2, a1, a0]) ⟨c.toNat, h⟩ (beNat [k1, k0]) (beNat [b3, b2, b1, b0]) l.toNat) found
      (accepted_iff.mpr (.inl idle))
    have same : t.sessions = s.sessions := sessions.trans (map_raised_of_ne nobody _ _)
    exact ⟨t, congrArg _ load, rest.trans (by rw [same]), record, others⟩
  · obtain ⟨t, load, rest, record, others, sessions⟩ := loadAccount_replaces
      (x := sent (beNat [a2, a1, a0]) ⟨c.toNat, h⟩ (beNat [k1, k0]) (beNat [b3, b2, b1, b0]) l.toNat) found
      (accepted_iff.mpr (.inr ⟨Fin.ext same_class, within⟩))
    have cls : (⟨c.toNat, h⟩ : Fin 4) = a.classNo := Fin.ext same_class
    exact ⟨t, congrArg _ load, rest, record.trans (by simp only [Loaded.overwrite, sent, cls]), others, sessions⟩
  · refine congrArg _ (loadAccount_refused found (Bool.eq_false_iff.mpr fun accepted => ?_))
    rcases accepted_iff.mp accepted with idle | ⟨same_class, within⟩
    · omega
    · exact refused.elim (· (congrArg Fin.val same_class)) (Nat.not_lt_of_le within)

/-! ## SET CLASS (R86) -/

theorem readLockPolicy_eq_some {b : Byte} {policy : LockPolicy} (h : policy.code = b.toNat) :
    readLockPolicy b = some policy := by
  unfold readLockPolicy
  rw [← h]
  cases policy <;> rfl

theorem readLockPolicy_eq_none {b : Byte} (h : 3 < b.toNat) : readLockPolicy b = none := by
  unfold readLockPolicy
  split
  case h_5 => rfl
  all_goals omega

/-- Every quantity of a class record as it is stored (R86). -/
theorem clamp_eq (r : ClassRecord) :
    r.clamp = { r with
      minCharge := if r.cap = 0 then min 255 r.minCharge else min r.cap (min 255 r.minCharge), grace := min 600 r.grace,
      idleLimit := min 120 r.idleLimit, failureLimit := max 1 (min 15 r.failureLimit), lockPeriod := min 6 r.lockPeriod,
      repeatLimit := max 1 (min 7 r.repeatLimit), holdTime := min 900 r.holdTime } := by
  simp [ClassRecord.clamp, storedMinimum, InOut.clampTo_eq]

/-- A class record is stored as sent unless a quantity is outside its range (R86). -/
theorem clamp_ne_iff (r : ClassRecord) :
    r.clamp ≠ r ↔ 255 < r.minCharge ∨ (r.cap ≠ 0 ∧ r.cap < r.minCharge) ∨ 600 < r.grace ∨ 120 < r.idleLimit ∨ r.failureLimit = 0
      ∨ 15 < r.failureLimit ∨ 6 < r.lockPeriod ∨ r.repeatLimit = 0 ∨ 7 < r.repeatLimit ∨ 900 < r.holdTime := by
  rw [clamp_eq]
  cases r
  simp only [ne_eq, ClassRecord.mk.injEq, true_and]
  split <;> omega

/-- The reply to SET CLASS is the stored record in the order's layout (11.3, 11.4). -/
theorem classBytes_eq (c : Fin 4) (r : ClassRecord) : classBytes c r = laid (r.layout c) := by
  simp [classBytes, ClassRecord.layout, laid_cons, beBytes_one, InOut.flagByte_eq]

/-- The class record that SET CLASS carries, as sent. -/
def sentClass (fr su : Byte) (minimum cap grace lowFunds : Nat) (idl fl : Byte) (policy : LockPolicy) (pe re : Byte)
    (hold : Nat) : ClassRecord :=
  { free := decide (fr ≠ 0#8), surcharge := decide (su ≠ 0#8), minCharge := minimum, cap := cap, grace := grace,
    lowFunds := lowFunds, idleLimit := idl.toNat, failureLimit := fl.toNat, lockPolicy := policy, lockPeriod := pe.toNat,
    repeatLimit := re.toNat, holdTime := hold }

section
variable {c fr su mi1 mi0 cp1 cp0 gr1 gr0 lo1 lo0 idl fl po pe re ho1 ho0 : Byte}

theorem readClassOrder_eq_some (h : c.toNat < 4) {policy : LockPolicy} (hp : policy.code = po.toNat) :
    readClassOrder [c, fr, su, mi1, mi0, cp1, cp0, gr1, gr0, lo1, lo0, idl, fl, po, pe, re, ho1, ho0] =
      some (⟨c.toNat, h⟩,
        sentClass fr su (beNat [mi1, mi0]) (beNat [cp1, cp0]) (beNat [gr1, gr0]) (beNat [lo1, lo0]) idl fl policy pe re
          (beNat [ho1, ho0]), decide (1 < fr.toNat) || decide (1 < su.toNat)) := by
  simp only [readClassOrder, readClass_eq_some h, readLockPolicy_eq_some hp, sentClass]

theorem readClassOrder_eq_none (h : 3 < c.toNat ∨ 3 < po.toNat) :
    readClassOrder [c, fr, su, mi1, mi0, cp1, cp0, gr1, gr0, lo1, lo0, idl, fl, po, pe, re, ho1, ho0] = none := by
  rcases h with cls | lock
  · simp only [readClassOrder, readClass_eq_none cls]
  · simp only [readClassOrder, readLockPolicy_eq_none lock]
    cases readClass c <;> rfl

end

/-- The reply says whether a flag or a quantity was replaced (R86, R169). -/
theorem doneOr_clamp (fr su : Byte) (r : ClassRecord) :
    doneOr ((decide (1 < fr.toNat) || decide (1 < su.toNat)) || decide (r.clamp ≠ r)) =
      if 1 < fr.toNat ∨ 1 < su.toNat ∨ 255 < r.minCharge ∨ (r.cap ≠ 0 ∧ r.cap < r.minCharge) ∨ 600 < r.grace ∨ 120 < r.idleLimit
        ∨ r.failureLimit = 0 ∨ 15 < r.failureLimit ∨ 6 < r.lockPeriod ∨ r.repeatLimit = 0 ∨ 7 < r.repeatLimit ∨ 900 < r.holdTime
      then .clamped else .done := by
  refine if_congr ?_ rfl rfl
  rw [Bool.or_eq_true, Bool.or_eq_true, decide_eq_true_eq, decide_eq_true_eq, decide_eq_true_eq, clamp_ne_iff, or_assoc]

/-- Settles O37: the order is read, its record is clamped, and the class and the reply take what stands. -/
theorem setClassReplacesTheRecord : Obligations.SetClassReplacesTheRecord := by
  intro s c fr su mi1 mi0 cp1 cp0 gr1 gr0 lo1 lo0 idl fl po pe re ho1 ho0 body ready hbody
  have run : exec (.setClass body) s = .next (orderSetClass body s.heard) := congrArg _ (s.takeOrder_ready _ _ _ ready)
  rw [run, orderSetClass, hbody]
  refine ⟨fun h policy cap minimum hpolicy hcap hminimum r hr => ?_, fun unlisted => ?_⟩
  · rw [readClassOrder_eq_some h hpolicy]
    dsimp only
    rw [doneOr_clamp, clamp_eq, classBytes_eq, hr, hminimum, hcap]
    rfl
  · rw [readClassOrder_eq_none unlisted]
    rfl

end

end Sys2Proof.Machine.Accounts
end

-- A sign-on record that ends in ENTRY: a wrong password, and the admission.
section
namespace Sys2Proof.Machine.Accounts

open InOut (received received_line received_setLine lively lively_of_no_session receive_accepted deliver_entry assemble_cr
  atReturn_fields statusAtReturn_eq signOnSettings_eq sendEcho_assembled)

/-! ## The record that a CR ends (R30, R92) -/

/-- A well-formed record is read as its number and its password (R92). -/
theorem parseSignOn_eq_some {digits pw : List Code} {n : Nat} (some_digit : 1 ≤ digits.length) (six : digits.length ≤ 6)
    (decimal : ∀ c ∈ digits, 48 ≤ c.toNat ∧ c.toNat ≤ 57) (value : n = digits.foldl (fun v c => v * 10 + (c.toNat - 48)) 0)
    (positive : 1 ≤ n) (some_char : 1 ≤ pw.length) (twelve : pw.length ≤ 12) (graphic : ∀ c ∈ pw, 33 ≤ c.toNat ∧ c.toNat ≤ 126) :
    parseSignOn (digits ++ pw) [digits.length] .complete = some (n, pw) := by
  have number : decimalOf digits = n := value.symm
  have all_digits : digits.all isDigit = true := by
    simp only [List.all_eq_true, isDigit, Bool.and_eq_true, decide_eq_true_eq]
    exact decimal
  have all_graphic : pw.all (fun c => decide (33 ≤ c.toNat) && decide (c.toNat ≤ 126)) = true := by
    simp only [List.all_eq_true, Bool.and_eq_true, decide_eq_true_eq]
    exact graphic
  simp only [parseSignOn, List.take_left', List.drop_left', number]
  exact if_pos ⟨some_digit, six, all_digits, positive, some_char, twelve, all_graphic⟩

/-- A line record after a CR ended its sign-on record. -/
def returned (l : Line) : Line := { l with space := .none, partialRecord := {}, output := l.echoed [13#7, 10#7] }

/-- The state in which a record that a CR ended in ENTRY is judged. -/
def entered (s : State) (p : Port) : State := s.setLine p (returned (s.line p))

section
variable {s : State} {p : Port} {d : Dialogue} {bit : Bool} {n : Nat} {pw : List Code} {a : Account}

/-- In ENTRY a CR ends the record, which is judged as it stands (R30, R36). -/
theorem assembleSignOn_return (d : Dialogue) {q : Partial} (record : (s.line p).partialRecord = q) (no_latch : q.latch = false)
    (fits : q.lengthRefusal = false) :
    s.assembleSignOn p d 13#7 =
      (s.setLine p { s.line p with partialRecord := {}, output := (s.line p).echoed [13#7, 10#7] }).judgeRecord p d q.buffer
        q.marks .complete := by
  obtain ⟨echo, bell, buffer, marks, ended⟩ := atReturn_fields q signOnSettings
  have sent : (q.atReturn signOnSettings).sent true = [13#7, 10#7] := by
    simp only [Assembled.sent, echo, bell, Bool.false_eq_true, if_false, if_true]
  have status : signOnSettings.statusAtReturn q = .complete := by
    simp only [statusAtReturn_eq, signOnSettings_eq, fits, Bool.false_eq_true, if_false, if_true]
  have echoed := sendEcho_assembled s p true q signOnSettings true 13#7 { s.line p with partialRecord := {} }
  rw [assemble_cr, sent] at echoed
  unfold State.assembleSignOn
  simp only [record, assemble_cr, ended, status, buffer, marks, no_latch, Bool.false_eq_true, and_false, if_false]
  exact congrArg (fun t : State => t.judgeRecord p d q.buffer q.marks .complete) echoed

/-- A CR behind a well-formed record has it judged (R91, R92). -/
theorem exec_return (typed : s.hasTyped p d n pw) (accepted : (s.line p).accepts 13#7 bit) :
    ∃ text marks, parseSignOn text marks .complete = some (n, pw) ∧
      exec (.characterReceived p 13#7 bit) s = .next ((entered s p).judgeRecord p d text marks .complete) := by
  obtain ⟨connected, held, entry, digits, record, some_digit, six, decimal, value, positive, some_char, twelve, graphic⟩ := typed
  refine ⟨digits ++ pw, [digits.length],
    parseSignOn_eq_some some_digit six decimal value positive some_char twelve graphic, ?_⟩
  have line := received_line s p
  have nobody : lively (s.line p).holder s.sessions = s.sessions := lively_of_no_session (by simp [held])
  have typed : ((received s p).line p).partialRecord = ⟨digits ++ pw, [digits.length], false, false⟩ := by rw [line]; exact record
  rw [receive_accepted s p 13#7 bit connected accepted, deliver_entry (by rw [line]; exact held) entry,
    assembleSignOn_return d typed rfl rfl, line, received_setLine, nobody]
  rfl

/-- A well-formed record on a table account with the host UP goes by its password and the account's lock (R79, R80). -/
theorem judgeRecord_open {text : List Code} {marks : List Nat} (parse : parseSignOn text marks .complete = some (n, pw))
    (up : s.link.host = .up) (found : s.findAccount n = some a) (isOpen : a.lock = .open) :
    s.judgeRecord p d text marks .complete =
      if checkValue pw = a.check then (s.mapAccount n (fun x => { x with failures := 0 })).accountChecks p d a
      else (s.countFailure p a).refuseSignOn p d slotNotAccepted := by
  simp only [State.judgeRecord, up, parse, found, isOpen]

/-! ## A refusal leaves the link (R95) -/

theorem dropWithMessage_link (connected : (s.line p).state = .connected) : (s.dropWithMessage p).link = s.link := by
  simp only [State.dropWithMessage, connected, State.mapLine_frame]

theorem farewell_link (connected : (s.line p).state = .connected) : (s.farewell p).link = s.link := by
  have line (f : Line → Line) (q : List Port) : State.line { s.mapLine p f with waitQueue := q } p = f (s.line p) :=
    State.line_mapLine_same s p f
  unfold State.farewell
  rw [dropWithMessage_link]
  · simp only [State.mapLine_frame]
  · rw [line]
    split <;> exact connected

theorem queueMessage_state (m : Slot) (q : Port) : ((s.queueMessage p m).line q).state = (s.line q).state := by
  rw [State.queueMessage_eq]
  by_cases same : q = p
  · subst same
    rw [State.line_setLine_same]
  · rw [State.line_setLine_ne _ _ _ _ same]

theorem refuseSignOn_link (connected : (s.line p).state = .connected) (m : Slot) : (s.refuseSignOn p d m).link = s.link := by
  unfold State.refuseSignOn
  dsimp only
  split
  · simp
  · rw [farewell_link]
    · simp
    · rw [queueMessage_state, queueMessage_state, State.line_mapLine_same]
      exact connected

/-! ## A wrong password (R80 to R82) -/

/-- Below the failure limit the failure is counted; at the limit the lock policy is applied (R80). -/
theorem countFailure_eq (few : a.failures < 15) :
    s.countFailure p a =
      if (s.classes[a.classNo]).failureLimit ≤ a.failures + 1 then s.applyLockPolicy p a (a.failures + 1)
      else s.mapAccount a.number (fun x => { x with failures := a.failures + 1 }) := by
  have count : restAt 15 (a.failures + 1) = a.failures + 1 := Nat.min_eq_right few
  simp only [State.countFailure, count]

/-- A failure changes no number and no other account. -/
theorem countFailure_others (few : a.failures < 15) {m : Nat} (other : m ≠ a.number) :
    (s.countFailure p a).findAccount m = s.findAccount m := by
  have change (f : Account → Account) (hf : ∀ x, (f x).number = x.number) :
      (s.mapAccount a.number f).findAccount m = s.findAccount m := s.findAccount_mapAccount_ne _ m f hf other
  rw [countFailure_eq few]
  unfold State.applyLockPolicy
  simp only [State.queueReport_eq]
  repeat' split
  all_goals exact change _ fun _ => rfl

/-- The state after a failure whose outcome is the change `f` of the account's record and a Link Controller `k`. -/
def failed (s : State) (a : Account) (f : Account → Account) (k : Link) : State := { s.mapAccount a.number f with link := k }

theorem applyLockPolicy_off (k : Nat) (policy : (s.classes[a.classNo]).lockPolicy = .off) :
    s.applyLockPolicy p a k = failed s a (fun x => { x with failures := k }) s.link := by
  simp only [State.applyLockPolicy, policy]
  rfl

theorem applyLockPolicy_report (k : Nat) (policy : (s.classes[a.classNo]).lockPolicy = .report) :
    s.applyLockPolicy p a k = failed s a (fun x => { x with failures := 0 })
      (s.link.reported (.accountLocked a.number p true .open a.lockRepeats)) := by
  simp only [State.applyLockPolicy, policy, State.queueReport_eq]
  rfl

theorem applyLockPolicy_latch (k : Nat) (policy : (s.classes[a.classNo]).lockPolicy = .latch) :
    s.applyLockPolicy p a k = failed s a (fun x => { x with failures := 0, lock := .lockedHeld })
      (s.link.reported (.accountLocked a.number p false .lockedHeld a.lockRepeats)) := by
  simp only [State.applyLockPolicy, policy, State.queueReport_eq]
  rfl

/-- TIMED locks for the class's period, and from the repeat limit on until the host unlocks (R81). -/
theorem applyLockPolicy_timed (k : Nat) (policy : (s.classes[a.classNo]).lockPolicy = .timed) {rep : Nat}
    (hrep : rep = min 7 (a.lockRepeats + 1)) {lock : LockState}
    (hlock : lock = if (s.classes[a.classNo]).repeatLimit ≤ rep then .lockedHeld
      else .lockedTimed (lockPeriodSeconds (s.classes[a.classNo]).lockPeriod)) :
    s.applyLockPolicy p a k = failed s a (fun x => { x with failures := 0, lock := lock, lockRepeats := rep })
      (s.link.reported (.accountLocked a.number p false lock rep)) := by
  subst hrep hlock
  simp only [State.applyLockPolicy, policy, State.queueReport_eq]
  rfl

theorem refuseSignOn_findAccount (m : Slot) (k : Nat) : (s.refuseSignOn p d m).findAccount k = s.findAccount k := by
  simp [State.findAccount]

/-- What the refusal of a failed password leaves of its account's record and of the link. -/
theorem refuseSignOn_failed {f : Account → Account} {k : Link} (connected : (s.line p).state = .connected)
    (found : s.findAccount a.number = some a) (hf : (f a).number = a.number) (m : Slot) :
    ((failed s a f k).refuseSignOn p d m).findAccount a.number = some (f a) ∧
      ((failed s a f k).refuseSignOn p d m).link = k := by
  rw [refuseSignOn_findAccount, refuseSignOn_link (s := failed s a f k) connected]
  exact ⟨s.findAccount_mapAccount _ f a found hf, rfl⟩

/-- Settles O26: the refusal leaves what the failed password made of the account and of the link. -/
theorem wrongPasswordsLockTheAccount : Obligations.WrongPasswordsLockTheAccount := by
  intro s p d bit n pw a r rep typed accepted up found wrong isOpen few hr hrep
  obtain rfl : a.number = n := by simpa using List.find?_some found
  subst hr
  obtain ⟨text, marks, parse, run⟩ := exec_return typed accepted
  rw [judgeRecord_open (s := entered s p) parse up found isOpen, if_neg wrong] at run
  have connected : ((entered s p).line p).state = .connected := by
    rw [entered, State.line_setLine_same]
    exact typed.1
  have count := countFailure_eq (s := entered s p) (p := p) few
  have outcome {f : Account → Account} {k : Link} (e : (entered s p).countFailure p a = failed (entered s p) a f k)
      (hf : (f a).number = a.number) :
      (((entered s p).countFailure p a).refuseSignOn p d slotNotAccepted).findAccount a.number = some (f a) ∧
        (((entered s p).countFailure p a).refuseSignOn p d slotNotAccepted).link = k := by
    rw [e]
    exact refuseSignOn_failed connected found hf _
  refine ⟨_, run, ?_, fun m other => ?_, fun below => ?_, fun reached => ⟨fun off => ?_, fun report => ?_, fun latch => ?_,
    fun timed again => ?_, fun timed first w hw => ?_⟩⟩
  · simp [entered]
  · rw [refuseSignOn_findAccount, countFailure_others few other]
    rfl
  · exact outcome (count.trans (if_neg (Nat.not_le_of_lt below))) rfl
  all_goals replace count := count.trans (if_pos reached)
  · exact outcome (count.trans (applyLockPolicy_off _ off)) rfl
  · exact outcome (count.trans (applyLockPolicy_report _ report)) rfl
  · exact outcome (count.trans (applyLockPolicy_latch _ latch)) rfl
  · exact outcome (count.trans (applyLockPolicy_timed (s := entered s p) _ timed hrep (if_pos again).symm)) rfl
  · subst hw
    exact outcome (count.trans (applyLockPolicy_timed (s := entered s p) _ timed hrep (if_neg (Nat.not_le_of_lt first)).symm)) rfl

end

end Sys2Proof.Machine.Accounts
end

-- The admission of a sign-on.
section
namespace Sys2Proof.Machine.Accounts

open InOut (raiseBand_same_or_above lowerBand_same_or_one_or_more reband_one_move)

/-! ## The load band at an admission (R139) -/

/-- A band that rises stands one higher, or two and more. -/
theorem raiseBand_same_or_one_or_more (k : Nat) (s : State) (q : Bool) :
    State.raiseBand k s q = s ∨ State.raiseBand k s q = s.setBand (s.tariff.band + 1) q
      ∨ s.tariff.band + 2 ≤ (State.raiseBand k s q).tariff.band := by
  induction k generalizing s with
  | zero => exact .inl rfl
  | succ k ih =>
    by_cases up : s.rises
    · refine .inr ?_
      rw [State.raiseBand_moves k s q up]
      obtain ⟨band, _, _, _⟩ := s.setBand_keeps (s.tariff.band + 1) q
      rcases ih (s.setBand (s.tariff.band + 1) q) with same | one | two
      · exact .inl same
      · rw [one, band]
        exact .inr (State.setBand_keeps _ _ q).1.ge
      · exact .inr (by omega)
    · exact .inl (State.raiseBand_stays _ s q up)

/-- An evaluation that leaves the band one higher is one move. -/
theorem reband_one_up {s : State} {q : Bool} (h : (s.reband q).tariff.band = s.tariff.band + 1) :
    s.reband q = s.setBand (s.tariff.band + 1) q := by
  unfold State.reband at h ⊢
  rcases raiseBand_same_or_above 3 s q with same | ⟨_, stays⟩
  · rw [same] at h
    rcases lowerBand_same_or_one_or_more 3 s q with still | ⟨_, one⟩ | two
    · rw [still] at h
      omega
    · rw [one, (s.setBand_keeps _ q).1] at h
      omega
    · omega
  · rw [State.lowerBand_stays _ _ _ stays] at h ⊢
    rcases raiseBand_same_or_one_or_more 3 s q with same | one | two
    · rw [same] at h
      omega
    · exact one
    · omega

/-- An admission leaves a settled band as `risen` has it. -/
theorem reband_risen {s : State} {u : Nat} (settled : s.tariff.steps.settled s.tariff.band u) (h : s.sessions.length = u + 1) :
    (s.reband false).tariff.band = s.tariff.steps.risen s.tariff.band (u + 1) := by
  rw [State.reband_rises s false u settled h]
  split
  · next same => exact same.symm
  · next moves =>
    rw [(s.setBand_keeps _ _).1]
    unfold LoadSteps.risen at moves ⊢
    split
    · rfl
    · next no => exact absurd (if_neg no) moves

/-- An evaluation changes the band and queues reports, and that is all. -/
theorem reband_eq (s : State) (q : Bool) : s.reband q =
    { s with tariff := { s.tariff with band := (s.reband q).tariff.band },
             link := { s.link with reports := (s.reband q).link.reports, lost := (s.reband q).link.lost } } := by
  have frame := s.reband_frame q
  generalize s.reband q = t at frame ⊢
  obtain ⟨_, _, _, _, _, _, _, _, _, ⟨⟩, _, ⟨⟩, _, _⟩ := t
  simp only at frame
  simp [frame]

/-! ## The new session (R98, R113, R144) -/

theorem freeNumber_unused {used : List Nat} {v : Nat} (free : v ∉ used) (k : Nat) : freeNumber used (k + 1) v = v := if_neg free

/-- A change of the thing that was appended, where nothing before it is of its kind. -/
theorem changeFirst_append_singleton {α : Type} {is : α → Bool} (f : α → α) {xs : List α} {y : α}
    (others : ∀ x ∈ xs, is x = false) (hy : is y = true) : changeFirst is f (xs ++ [y]) = xs ++ [f y] := by
  induction xs with
  | nil => exact if_pos hy
  | cons x xs ih =>
    obtain ⟨first, rest⟩ := List.forall_mem_cons.mp others
    simp only [List.cons_append, changeFirst, first, Bool.false_eq_true, if_false, ih rest]

/-- The record of a new session of an account, on a line at a rate and a multiplier. -/
def newSession (s : State) (p : Port) (a : Account) (rate multiplier : Nat) : Session :=
  { number := s.nextNumber, account := a.number, snapshot := ⟨a.classNo, s.classes[a.classNo]⟩, state := .open,
    boundLine := some p, firstLine := p, lastLine := p, start := s.tariff.clock,
    meter := { rate := rate, multiplier := multiplier } }

/-- The state with a new session of an account on a line, the load band at `band` and its report, if any, on the link `k`. -/
def opened (s : State) (p : Port) (a : Account) (band : Nat) (k : Link) : State :=
  { s with
    lines := s.lines.set p { s.line p with retryCount := 0, holder := .session s.nextNumber },
    accounts := (s.mapAccount a.number (fun x => { x with active := x.active + 1 })).accounts,
    waitQueue := without p s.waitQueue,
    sessions := s.sessions ++ [newSession s p a (s.admissionRate a.classNo)
      (if (s.classes[a.classNo]).surcharge then s.tariff.steps.multiplier band else 16)],
    nextNumber := if 65535 ≤ s.nextNumber then 1 else s.nextNumber + 1,
    tariff := { s.tariff with band := band },
    link := k.reported (.sessionOpened s.nextNumber p a.number a.classNo) }

/-- What an admission makes of the load band and of the link: one LOAD BAND report where the band rises by one, and where it was
settled it rises by one or not at all (R139). -/
structure Rebanded (s : State) (band : Nat) (k : Link) : Prop where
  queue : k = { s.link with reports := k.reports, lost := k.lost }
  stays : band = s.tariff.band → k = s.link
  rises : band = s.tariff.band + 1 → k = s.link.reported (.loadBand s.tariff.band (s.tariff.band + 1) (s.sessions.length + 1)
    (s.tariff.steps.multiplier (s.tariff.band + 1)))
  settled : s.bandSettled → band = s.tariff.steps.risen s.tariff.band (s.sessions.length + 1)

/-- The session is in the table and counted on its account; the band is not yet evaluated. -/
def seated (s : State) (p : Port) (a : Account) : State :=
  State.mapAccount { s with
    sessions := s.sessions ++ [newSession s p a (s.admissionRate a.classNo) 16], nextNumber := succNumber s.nextNumber }
    a.number (fun x => { x with active := x.active + 1 })

theorem length_seated (s : State) (p : Port) (a : Account) : (seated s p a).sessions.length = s.sessions.length + 1 :=
  List.length_append

theorem rebanded_seated (s : State) (p : Port) (a : Account) :
    Rebanded s ((seated s p a).reband false).tariff.band ((seated s p a).reband false).link := by
  refine ⟨congrArg State.link (reband_eq (seated s p a) false), fun stays => ?_, fun rises => ?_, fun settled => ?_⟩
  · have still : (seated s p a).reband false = seated s p a := (reband_one_move _ false (.inl stays)).trans (if_pos stays)
    rw [still]
    rfl
  · rw [reband_one_up rises, ← length_seated s p a]
    simp only [State.setBand, Bool.false_eq_true, if_false, State.queueReport_eq]
    rfl
  · exact reband_risen (s := seated s p a) settled (length_seated s p a)

/-- The new session takes the multiplier of the band that it may have raised (R98, R144). -/
theorem multiply_newSession (s : State) (p : Port) (a : Account) (unused : ∀ y ∈ s.sessions, y.number ≠ s.nextNumber)
    (rate m : Nat) :
    changeFirst (fun y => y.number == s.nextNumber) (fun y : Session => { y with meter := { y.meter with multiplier := m } })
      (s.sessions ++ [newSession s p a rate 16]) = s.sessions ++ [newSession s p a rate m] :=
  changeFirst_append_singleton _ (by simpa using unused) (beq_self_eq_true _)

/-- The session has its multiplier and its line, and the line waits no longer. -/
def lined (s : State) (p : Port) (n m : Nat) : State :=
  { (s.mapSession n (fun y => { y with meter := { y.meter with multiplier := m } })).mapLine p
      (fun l => { l with retryCount := 0, holder := .session n }) with waitQueue := without p s.waitQueue }

/-- Admission opens a session, and tests its funds (R98, R149). -/
theorem admitLine_eq (s : State) (p : Port) (a : Account) (unused : ∀ y ∈ s.sessions, y.number ≠ s.nextNumber) :
    ∃ band k, Rebanded s band k ∧ s.admitLine p a = (opened s p a band k).lowFundsTest s.nextNumber := by
  refine ⟨_, _, rebanded_seated s p a, ?_⟩
  have number : freeNumber (s.sessions.map (·.number)) 33 s.nextNumber = s.nextNumber :=
    freeNumber_unused (by simpa using unused) 32
  have run : s.admitLine p a = ((lined ((seated s p a).reband false) p s.nextNumber
      (((seated s p a).reband false).currentMultiplier s.classes[a.classNo])).queueReport
        (.sessionOpened s.nextNumber p a.number a.classNo)).lowFundsTest s.nextNumber := by
    simp only [State.admitLine, number]
    rfl
  obtain ⟨band, k, moved⟩ : ∃ band k, (seated s p a).reband false =
      { seated s p a with tariff := { s.tariff with band := band }, link := k } := ⟨_, _, reband_eq _ _⟩
  rw [run, moved, State.queueReport_eq, lined, State.mapSession]
  refine congrArg (State.lowFundsTest · s.nextNumber) ?_
  have sessions := multiply_newSession s p a unused (s.admissionRate a.classNo)
    (if (s.classes[a.classNo]).surcharge then s.tariff.steps.multiplier band else 16)
  exact congrArg (fun xs => ({ opened s p a band k with sessions := xs } : State)) sessions

/-! ## The low-funds test of a new session (R149) -/

section
variable {s : State} {p : Port} {a : Account} {n cu : Nat} {band : Nat} {k : Link}

/-- The new session is the one of its number. -/
theorem findSession_opened (unused : ∀ y ∈ s.sessions, y.number ≠ s.nextNumber) :
    ∃ m, (opened s p a band k).findSession s.nextNumber = some (newSession s p a (s.admissionRate a.classNo) m) := by
  refine ⟨if (s.classes[a.classNo]).surcharge then s.tariff.steps.multiplier band else 16, ?_⟩
  have before : s.sessions.find? (fun y => y.number == s.nextNumber) = none := List.find?_eq_none.mpr (by simpa using unused)
  refine List.find?_append.trans ?_
  rw [before, Option.none_or]
  exact List.find?_cons_of_pos (beq_self_eq_true _)

/-- Admission leaves the account's record but for its active count. -/
theorem findAccount_opened {x : Account} (found : s.findAccount a.number = some x) :
    (opened s p a band k).findAccount a.number = some { x with active := x.active + 1 } :=
  s.findAccount_mapAccount _ _ x found rfl

theorem findAccount_opened_ne {m : Nat} (other : m ≠ a.number) : (opened s p a band k).findAccount m = s.findAccount m :=
  s.findAccount_mapAccount_ne _ m _ (fun _ => rfl) other

/-- The session that the admission opens is warned where its account's balance is within the threshold (R149). -/
theorem lowFundsTest_opened {x : Account} (unused : ∀ y ∈ s.sessions, y.number ≠ s.nextNumber)
    (found : s.findAccount a.number = some x) :
    (opened s p a band k).lowFundsTest s.nextNumber =
      if (s.classes[a.classNo]).lowFunds ≠ 0 ∧ x.balance ≤ (s.classes[a.classNo]).lowFunds then
        (((opened s p a band k).queueMessage p slotFundsLow).queueReport
          (.fundsLow s.nextNumber a.number (some p) x.balance)).mapSession s.nextNumber (fun y => { y with fundsWarned := true })
      else opened s p a band k := by
  obtain ⟨m, fresh⟩ := findSession_opened (p := p) (a := a) (band := band) (k := k) unused
  have balance : (opened s p a band k).balanceOf a.number = x.balance := by
    rw [State.balanceOf, findAccount_opened found]
    rfl
  unfold State.lowFundsTest
  rw [fresh]
  simp only [newSession, balance, and_true]
  rfl

/-! ## The checks that an admission passes (R93) -/

theorem currentRate_open (rate : s.openAt a.classNo cu) : s.currentRate a.classNo = some (.open cu) := by
  obtain ⟨w, period, isOpen⟩ := rate
  rw [State.currentRate, period]
  exact congrArg some isOpen

theorem accountChecks_admits {d : Dialogue} (rate : s.openAt a.classNo cu)
    (funds : a.balance ≠ 0 ∨ (s.classes[a.classNo]).free = true)
    (none_held : ∀ y ∈ s.sessions, y.account = a.number → y.state ≠ .held) (below : a.active < a.limit)
    (reservation : s.sessions.length + s.bills.length < 128) (slot : s.sessions.length < s.link.limits.hostSlots) :
    s.accountChecks p d a = s.admitLine p a := by
  have hour : s.rateOpen a.classNo = true := by simp only [State.rateOpen, currentRate_open rate]
  have no_held : s.heldSession a.number = none := by
    have empty : s.sessions.filter (fun x => x.account == a.number && x.state == .held) = [] := by
      simpa [List.filter_eq_nil_iff] using none_held
    simp only [State.heldSession, empty]
  have funded : ¬ (a.balance = 0 ∧ (s.classes[a.classNo]).free = false) := by
    rintro ⟨zero, paid⟩
    exact funds.elim (· zero) fun free => absurd (free.symm.trans paid) (by decide)
  have room : ¬ Config.maxReservations ≤ s.reservations := Nat.not_le_of_lt reservation
  simp only [State.accountChecks, hour, Bool.true_eq_false, if_false, funded, no_held, State.capacityChecks,
    Nat.not_le_of_lt below, room]
  exact if_pos slot

theorem admissionRate_open (rate : s.openAt a.classNo cu) : s.admissionRate a.classNo = cu := by
  simp only [State.admissionRate, currentRate_open rate]

/-! ## A sign-on that is admitted -/

/-- The state in which a right password is judged further: its record has ended and its failures are cleared (R79). -/
def cleared (s : State) (p : Port) (n : Nat) : State := (entered s p).mapAccount n (fun x => { x with failures := 0 })

/-- The line on which a new session is admitted. -/
theorem lines_cleared (n m : Nat) :
    (cleared s p n).lines.set p { (cleared s p n).line p with retryCount := 0, holder := .session m } =
      s.lines.set p { s.line p with
        space := .none, partialRecord := {}, output := (s.line p).echoed [13#7, 10#7], holder := .session m,
        retryCount := 0 } := by
  have line : (cleared s p n).line p = returned (s.line p) := s.line_setLine_same p _
  rw [line]
  exact Vector.set_set _ _

/-- The line holds the new session, and behind what it had on its output queue stands the CR's echo. -/
theorem line_admitted : (opened (cleared s p n) p a band k).line p =
    { returned (s.line p) with retryCount := 0, holder := .session s.nextNumber } := by
  have line : (cleared s p n).line p = returned (s.line p) := s.line_setLine_same p _
  rw [← line]
  exact (cleared s p n).line_setLine_same p _

/-- A message on a line, a report and a change of a session, each where it stands. -/
theorem warned_fields (s : State) (p : Port) (m : Slot) (r : Report) (n : Nat) (f : Session → Session) :
    (((s.queueMessage p m).queueReport r).mapSession n f).tariff = s.tariff ∧
      (((s.queueMessage p m).queueReport r).mapSession n f).link = s.link.reported r ∧
      (((s.queueMessage p m).queueReport r).mapSession n f).sessions = changeFirst (fun y => y.number == n) f s.sessions ∧
      (((s.queueMessage p m).queueReport r).mapSession n f).line p = (s.queueMessage p m).line p := by
  rw [State.queueReport_eq]
  refine ⟨?_, ?_, ?_, rfl⟩ <;> simp [State.mapSession]

/-- A message of the table joins whole or not at all, as `joined` has it (R44, R90). -/
theorem queueMessage_shown (s : State) (p : Port) (m : Slot) :
    ((s.queueMessage p m).line p).shown = joined (s.line p).shown s.messages[m] := by
  rw [Line.shown, State.queueMessage_codes, joined, Line.shown, List.length_map]
  split
  · rfl
  · exact List.append_nil _

theorem queueMessage_holder (s : State) (p : Port) (m : Slot) : ((s.queueMessage p m).line p).holder = (s.line p).holder := by
  rw [State.queueMessage_eq, State.line_setLine_same]

/-- A report changes the queue and the lost flag, and nothing else. -/
theorem reported_of_queue {k l : Link} (h : k = { l with reports := k.reports, lost := k.lost }) (r : Report) :
    k.reported r = { l with reports := (k.reported r).reports, lost := (k.reported r).lost } := by
  generalize k.reports = reports, k.lost = lost at h
  subst h
  unfold Link.reported
  split <;> rfl

/-- The records of the account, and of every other, after the admission. -/
theorem findAccount_admitted (found : s.findAccount a.number = some a) :
    (opened (cleared s p a.number) p a band k).findAccount a.number = some { a with failures := 0, active := a.active + 1 } ∧
      ∀ m, m ≠ a.number → (opened (cleared s p a.number) p a band k).findAccount m = s.findAccount m := by
  refine ⟨?_, fun m other => ?_⟩
  · exact findAccount_opened ((entered s p).findAccount_mapAccount _ _ a found rfl)
  · exact (findAccount_opened_ne other).trans ((entered s p).findAccount_mapAccount_ne _ m _ (fun _ => rfl) other)

/-- Settles O24: the checks pass, the admission opens the session, and the low-funds test warns it or not. -/
theorem signOnAdmits : Obligations.SignOnAdmits := by
  intro s p d bit n cu pw a typed accepted up found right isOpen rate funds none_held below reservation slot unused
  obtain rfl : a.number = n := by simpa using List.find?_some found
  obtain ⟨text, marks, parse, run⟩ := exec_return typed accepted
  rw [judgeRecord_open (s := entered s p) parse up found isOpen, if_pos right] at run
  have admits : (cleared s p a.number).accountChecks p d a = _ :=
    accountChecks_admits rate funds none_held below reservation slot
  obtain ⟨band, k, moved, admitted⟩ := admitLine_eq (cleared s p a.number) p a unused
  have record : (cleared s p a.number).findAccount a.number = some { a with failures := 0 } :=
    (entered s p).findAccount_mapAccount _ _ a found rfl
  replace run := run.trans (congrArg _ (admits.trans (admitted.trans (lowFundsTest_opened unused record))))
  refine ⟨fun unwarned => ?_, fun low within => ?_⟩
  · have quiet : ¬ ((s.classes[a.classNo]).lowFunds ≠ 0 ∧ a.balance ≤ (s.classes[a.classNo]).lowFunds) := by omega
    refine ⟨_, run.trans (congrArg _ (if_neg quiet)), ?_, fun stays => ?_, fun rises => ?_, moved.settled,
      findAccount_admitted found⟩
    · have latched : (cleared s p a.number).admissionRate a.classNo = cu := admissionRate_open rate
      unfold opened
      rw [State.mk.injEq]
      exact ⟨lines_cleared _ _, rfl, rfl, rfl, rfl, rfl, rfl, by rw [latched]; rfl, rfl, rfl, rfl,
        reported_of_queue moved.queue _, rfl, rfl⟩
    · exact congrArg (Link.reported · _) (moved.stays stays)
    · exact congrArg (Link.reported · _) (moved.rises rises)
  · obtain ⟨tariff, link, sessions, line⟩ := warned_fields (opened (cleared s p a.number) p a band k) p slotFundsLow
      (.fundsLow s.nextNumber a.number (some p) a.balance) s.nextNumber (fun y => { y with fundsWarned := true })
    have latched : (cleared s p a.number).admissionRate a.classNo = cu := admissionRate_open rate
    replace tariff := congrArg Tariff.band tariff
    refine ⟨_, { newSession (cleared s p a.number) p a cu
        (if (s.classes[a.classNo]).surcharge then s.tariff.steps.multiplier band else 16) with fundsWarned := true },
      run.trans (congrArg _ (if_pos ⟨low, within⟩)), ?_, rfl, rfl, rfl, rfl, rfl, rfl, ?_, ?_, fun stays => ?_, fun rises => ?_,
      fun settled => tariff.trans (moved.settled settled)⟩
    · have others : ∀ y ∈ s.sessions, (y.number == s.nextNumber) = false := by simpa using unused
      refine sessions.trans ((changeFirst_append_singleton _ others (beq_self_eq_true _)).trans ?_)
      rw [latched]
      rfl
    · exact (congrArg Line.holder line).trans ((queueMessage_holder _ _ _).trans (congrArg Line.holder line_admitted))
    · refine (congrArg Line.shown line).trans ((queueMessage_shown _ _ _).trans ?_)
      rw [line_admitted]
      rfl
    · exact link.trans (congrArg (fun l : Link => (l.reported _).reported _) (moved.stays (tariff.symm.trans stays)))
    · exact link.trans (congrArg (fun l : Link => (l.reported _).reported _) (moved.rises (tariff.symm.trans rises)))

end

end Sys2Proof.Machine.Accounts
end

-- Host state, wait queue and slots: what the shared operations keep.
section
namespace Sys2Proof.Machine.Places

/-! ## What the rules of host state, wait queue and slots read of a state -/

/-- What is read beside the wait queue: the states of the session records, the host state, the host-down limit and the limits. -/
def desk (s : State) : List SessionState × HostState × Option Nat × Limits :=
  (s.sessions.map Session.state, s.link.host, s.link.downRemaining, s.link.limits)

/-- What a run of operations from `s` leaves in `t`, whether or not lines wait while a slot is free: the limits, the agreement of
host state and sessions, and no more session records than before or than the host slot limit. -/
structure Steady (s t : State) : Prop where
  limits : t.link.limits = s.link.limits
  host : s.hostSound → t.hostSound
  room : t.sessions.length ≤ s.sessions.length ∨ t.sessions.length ≤ t.link.limits.hostSlots

/-- What every operation but SET LIMITS keeps: `Steady`, and no line waiting while a slot is free. -/
structure Kept (s t : State) : Prop extends Steady s t where
  waiters : s.waitersSound → t.waitersSound

variable {s t u : State}

theorem Steady.refl (s : State) : Steady s s := ⟨rfl, id, .inl le_rfl⟩

theorem Steady.trans (h : Steady s t) (k : Steady t u) : Steady s u := by
  refine ⟨k.limits.trans h.limits, k.host ∘ h.host, ?_⟩
  rcases k.room with fewer | fits
  · rcases h.room with few | fit
    · exact .inl (fewer.trans few)
    · exact .inr (fewer.trans (k.limits ▸ fit))
  · exact .inr fits

theorem Kept.refl (s : State) : Kept s s := ⟨.refl s, id⟩

theorem Kept.trans (h : Kept s t) (k : Kept t u) : Kept s u := ⟨h.toSteady.trans k.toSteady, k.waiters ∘ h.waiters⟩

/-- Host state and limits stay, the wait queue gets no line, and a session's state is one that was in the table, HELD, or with
the host UP OPEN. -/
theorem Steady.of_states (host : t.link.host = s.link.host) (down : t.link.downRemaining = s.link.downRemaining)
    (limits : t.link.limits = s.link.limits) (queue : t.waitQueue ⊆ s.waitQueue)
    (states : ∀ x ∈ t.sessions.map Session.state,
      x ∈ s.sessions.map Session.state ∨ x = .held ∨ (x = .open ∧ s.link.host = .up))
    (room : t.sessions.length ≤ s.sessions.length ∨ t.sessions.length ≤ s.link.limits.hostSlots) : Steady s t := by
  refine ⟨limits, fun ⟨up, isDown⟩ => ⟨fun h => ⟨fun x hx stalled => ?_, ?_⟩, fun h => ⟨fun x hx isOpen => ?_, ?_⟩⟩,
    limits ▸ room⟩
  · obtain ⟨none_stalled, -⟩ := up (host ▸ h)
    rcases states _ (List.mem_map_of_mem hx) with was | held | ⟨isOpen, -⟩
    · obtain ⟨y, hy, same⟩ := List.mem_map.mp was
      exact none_stalled y hy (same.trans stalled)
    · cases held.symm.trans stalled
    · cases isOpen.symm.trans stalled
  · exact down.trans (up (host ▸ h)).2
  · obtain ⟨none_open, -⟩ := isDown (host ▸ h)
    rcases states _ (List.mem_map_of_mem hx) with was | held | ⟨-, isUp⟩
    · obtain ⟨y, hy, same⟩ := List.mem_map.mp was
      exact none_open y hy (same.trans isOpen)
    · cases held.symm.trans isOpen
    · cases (host.trans isUp).symm.trans h
  · obtain ⟨-, empty⟩ := isDown (host ▸ h)
    exact List.subset_nil.mp (empty ▸ queue)

theorem length_of_states (h : t.sessions.map Session.state = s.sessions.map Session.state) :
    t.sessions.length = s.sessions.length := by simpa only [List.length_map] using congrArg List.length h

/-- Lines may leave the wait queue; all else that is read stays. -/
theorem Kept.leave (h : Kept s t) (e : desk u = desk t) (queue : u.waitQueue ⊆ t.waitQueue) : Kept s u := by
  simp only [desk, Prod.mk.injEq] at e
  obtain ⟨states, host, down, limits⟩ := e
  have length := length_of_states states
  refine h.trans ⟨.of_states host down limits queue (fun x hx => .inl (states ▸ hx)) (.inl length.le), fun sound waits => ?_⟩
  rw [limits, length]
  exact sound fun none => waits (List.subset_nil.mp (none ▸ queue))

/-- States that agree in what is read are alike. -/
theorem Kept.same (h : Kept s t) (e : desk u = desk t) (queue : u.waitQueue = t.waitQueue) : Kept s u :=
  h.leave e (queue ▸ List.Subset.refl _)

/-! ## The states of the session records -/

@[simp] theorem states_mapSession (s : State) (n : Nat) {f : Session → Session} (hf : ∀ x, (f x).state = x.state) :
    (s.mapSession n f).sessions.map Session.state = s.sessions.map Session.state := by
  unfold State.mapSession
  induction s.sessions with
  | nil => rfl
  | cons x xs ih =>
    simp only [changeFirst]
    split
    · simp [hf]
    · simpa using ih

@[simp] theorem states_bookUnits (s : State) (n k : Nat) :
    (s.bookUnits n k).sessions.map Session.state = s.sessions.map Session.state := by
  unfold State.bookUnits
  split <;> simp

@[simp] theorem states_lowFundsTest (s : State) (n : Nat) :
    (s.lowFundsTest n).sessions.map Session.state = s.sessions.map Session.state := by
  unfold State.lowFundsTest
  dsimp only
  repeat' split
  all_goals simp

@[simp] theorem states_graceStart (s : State) (n : Nat) :
    (s.graceStart n).1.sessions.map Session.state = s.sessions.map Session.state := by
  unfold State.graceStart
  repeat' split
  all_goals simp

@[simp] theorem states_lowerCountdowns (s : State) (n : Nat) (a b : Bool) :
    (s.lowerCountdowns n a b).1.sessions.map Session.state = s.sessions.map Session.state := by
  unfold State.lowerCountdowns
  split <;> simp

@[simp] theorem states_chargeSecond (s : State) (n : Nat) (ran : Bool) :
    (s.chargeSecond n ran).1.sessions.map Session.state = s.sessions.map Session.state := by
  unfold State.chargeSecond
  split
  · rfl
  · next x _ =>
    have charged := states_graceStart
      (((s.mapSession n (fun y => { y with meter := (x.meter.accumulate x.snapshot.record.cap).2 })).bookUnits n
      (x.meter.accumulate x.snapshot.record.cap).1).lowFundsTest n) n
    dsimp only
    split
    · next e => simpa [e] using charged
    · next e => simpa [e] using charged

@[simp] theorem states_relatch (s : State) (n : Nat) (v : Latch) :
    (s.relatch n v).sessions.map Session.state = s.sessions.map Session.state := by
  cases v <;> simp [State.relatch, State.latchRate, State.latchMultiplier]

@[simp] theorem states_balanceChanged (s : State) (a b c : Nat) :
    (s.balanceChanged a b c).sessions.map Session.state = s.sessions.map Session.state := by
  unfold State.balanceChanged
  split
  · simp only [List.map_map]
    refine List.map_congr_left fun x _ => ?_
    simp only [Function.comp]
    split <;> rfl
  · rfl

@[simp] theorem states_finalize (s : State) (n : Nat) :
    (s.finalize n).sessions.map Session.state = s.sessions.map Session.state := by
  have round : (s.roundSession n).sessions.map Session.state = s.sessions.map Session.state := by
    unfold State.roundSession
    dsimp only
    repeat' split
    all_goals simp
  unfold State.finalize State.applyMinimum
  repeat' split
  all_goals simp [round]

/-- Admission adds an OPEN session (R98, R111). -/
theorem states_admitLine (s : State) (p : Port) (a : Account) :
    (s.admitLine p a).sessions.map Session.state = s.sessions.map Session.state ++ [.open] := by
  simp [State.admitLine]

@[simp] theorem states_rateSignal (s : State) (c : Fin 4) (a b : Option Rate) :
    (s.rateSignal c a b).sessions.map Session.state = s.sessions.map Session.state := by
  unfold State.rateSignal State.closedSignal State.reopenedSignal
  split
  · simp only [State.queueMessages_frame, List.map_map]
    refine List.map_congr_left fun x _ => ?_
    simp only [Function.comp]
    split <;> rfl
  · simp only [List.map_map]
    refine List.map_congr_left fun x _ => ?_
    simp only [Function.comp]
    split <;> rfl
  · rfl

@[simp] theorem states_rateSignals (s : State) (a b : Option Period) :
    (s.rateSignals a b).sessions.map Session.state = s.sessions.map Session.state := by
  simp [State.rateSignals]

@[simp] theorem states_selectPeriod (s : State) :
    s.selectPeriod.sessions.map Session.state = s.sessions.map Session.state := by
  unfold State.selectPeriod
  repeat' split
  all_goals simp

@[simp] theorem states_minuteMark (s : State) (wraps : Bool) :
    (s.minuteMark wraps).sessions.map Session.state = s.sessions.map Session.state := by
  have switched (t : State) : t.switchTariff.sessions.map Session.state = t.sessions.map Session.state := by
    unfold State.switchTariff
    dsimp only
    split <;> simp
  unfold State.minuteMark
  dsimp only
  repeat' split
  all_goals simp [switched]

@[simp] theorem states_relatches (s : State) (ns : List Nat) (v : Nat → Latch) :
    (ns.foldl (fun q n => q.relatch n (v n)) s).sessions.map Session.state = s.sessions.map Session.state := by
  induction ns generalizing s with
  | nil => rfl
  | cons n ns ih => simp [ih]

@[simp] theorem states_signalLife (s : State) (p : Port) :
    (s.signalLife p).sessions.map Session.state = s.sessions.map Session.state := by
  unfold State.signalLife
  split
  · refine states_mapSession _ _ fun x => ?_
    split <;> rfl
  · rfl

/-! ## Lines that leave the wait queue -/

theorem goOnHook_queue (s : State) (p : Port) (d : Destination) : (s.goOnHook p d).waitQueue.Sublist s.waitQueue :=
  List.filter_sublist

theorem dropWithoutMessage_queue (s : State) (p : Port) (d : Destination) :
    (s.dropWithoutMessage p d).waitQueue.Sublist s.waitQueue := by
  unfold State.dropWithoutMessage
  split
  · simpa using goOnHook_queue s p d
  · exact .refl _

theorem dropWithMessage_queue (s : State) (p : Port) : (s.dropWithMessage p).waitQueue.Sublist s.waitQueue := by
  unfold State.dropWithMessage
  split
  · exact dropWithoutMessage_queue s p _
  · exact dropWithoutMessage_queue s p _
  · simp
  · exact .refl _

theorem endDialogue_queue (s : State) (p : Port) : (s.endDialogue p).waitQueue.Sublist s.waitQueue := List.filter_sublist

theorem farewell_queue (s : State) (p : Port) : (s.farewell p).waitQueue.Sublist (without p s.waitQueue) := by
  unfold State.farewell
  exact (dropWithMessage_queue _ p).trans (by simp [without])

theorem farewell_queue_sublist (s : State) (p : Port) : (s.farewell p).waitQueue.Sublist s.waitQueue :=
  (farewell_queue s p).trans List.filter_sublist

theorem admitLine_queue (s : State) (p : Port) (a : Account) : (s.admitLine p a).waitQueue = without p s.waitQueue := by
  simp [State.admitLine, without]

/-- Judging a line that has been taken from the wait queue puts none in it (R105, R106). -/
theorem judgeHead_queue (s : State) (p : Port) : (s.judgeHead p).waitQueue.Sublist s.waitQueue := by
  unfold State.judgeHead
  repeat' split
  · exact (dropWithoutMessage_queue _ p _).trans (endDialogue_queue s p)
  · simpa using farewell_queue_sublist (s.queueMessage p slotNotAccepted) p
  · next m _ => simpa using farewell_queue_sublist (s.queueMessage p m) p
  · rw [admitLine_queue]
    exact List.filter_sublist

theorem Kept.dropWithoutMessage (h : Kept s t) (p : Port) (d : Destination) : Kept s (t.dropWithoutMessage p d) :=
  h.leave (by simp [desk]) (dropWithoutMessage_queue t p d).subset

theorem Kept.dropWithMessage (h : Kept s t) (p : Port) : Kept s (t.dropWithMessage p) :=
  h.leave (by simp [desk]) (dropWithMessage_queue t p).subset

theorem Kept.endDialogue (h : Kept s t) (p : Port) : Kept s (t.endDialogue p) :=
  h.leave (by simp [desk]) (endDialogue_queue t p).subset

theorem Kept.farewell (h : Kept s t) (p : Port) : Kept s (t.farewell p) :=
  h.leave (by simp [desk]) (farewell_queue_sublist t p).subset

theorem Kept.queueMessage (h : Kept s t) (p : Port) (m : Slot) : Kept s (t.queueMessage p m) :=
  h.same (by simp [desk]) (by simp)

theorem Kept.mapLine (h : Kept s t) (p : Port) (f : Line → Line) : Kept s (t.mapLine p f) :=
  h.same (by simp [desk]) (by simp)

theorem Kept.mapAccount (h : Kept s t) (a : Nat) (f : Account → Account) : Kept s (t.mapAccount a f) :=
  h.same (by simp [desk]) (by simp)

theorem Kept.keepSession (h : Kept s t) (n : Nat) (f : Session → Session)
    (hf : ∀ x, (f x).state = x.state := by exact fun _ => rfl) : Kept s (t.mapSession n f) :=
  h.same (by simp [desk, hf]) (by simp)

/-! ## Admission, the wait queue and close -/

/-- An admission while the host is UP and a slot is free (R97, R98). -/
theorem Kept.admitLine (h : Kept s t) (p : Port) (a : Account) (up : t.link.host = .up)
    (free : t.sessions.length < t.link.limits.hostSlots) : Kept s (t.admitLine p a) := by
  have states := states_admitLine t p a
  have queue : (t.admitLine p a).waitQueue ⊆ t.waitQueue := by
    rw [admitLine_queue]
    exact List.filter_subset_self _
  have length : (t.admitLine p a).sessions.length = t.sessions.length + 1 := by simpa using congrArg List.length states
  refine h.trans ⟨.of_states (by simp) (by simp) (by simp) queue (fun x hx => ?_) (.inr (by omega)), fun sound waits => ?_⟩
  · rw [states] at hx
    rcases List.mem_append.mp hx with was | new
    · exact .inl was
    · exact .inr (.inr ⟨List.mem_singleton.mp new, up⟩)
  · have full := sound fun none => waits (List.subset_nil.mp (none ▸ queue))
    omega

/-- A line taken from the wait queue is judged with a slot free (R106). -/
theorem Kept.judgeHead (h : Kept s t) (p : Port) (free : t.sessions.length < t.link.limits.hostSlots) :
    Kept s (t.judgeHead p) := by
  unfold State.judgeHead
  split
  · exact (h.endDialogue p).dropWithoutMessage p _
  · next up =>
    repeat' split
    · exact (h.queueMessage p _).farewell p
    · exact (h.queueMessage p _).farewell p
    · exact h.admitLine p _ up free

theorem Steady.evaluateQueue (h : Steady s t) (k : Nat) : Steady s (State.evaluateQueue k t) := by
  induction k generalizing t with
  | zero => exact h
  | succ k ih =>
    unfold State.evaluateQueue
    repeat' split
    · exact h
    · next p rest waits free =>
      have taken : Steady t { t with waitQueue := rest } :=
        .of_states rfl rfl rfl (waits ▸ List.subset_cons_self p rest) (fun _ => .inl) (.inl le_rfl)
      have judged := (Kept.refl { t with waitQueue := rest }).judgeHead p free
      exact ih ((h.trans taken).trans judged.toSteady)
    · exact h

/-- After an evaluation no line waits while a slot is free (R105). -/
theorem waitersSound_evaluateQueue (k : Nat) (s : State) (rounds : s.waitQueue.length ≤ k) :
    (State.evaluateQueue k s).waitersSound := by
  induction k generalizing s with
  | zero => exact fun waits => absurd (List.eq_nil_of_length_eq_zero (Nat.le_zero.mp rounds)) waits
  | succ k ih =>
    unfold State.evaluateQueue
    repeat' split
    · next none => exact fun waits => absurd none waits
    · next p rest waits free =>
      rw [waits, List.length_cons] at rounds
      exact ih _ ((judgeHead_queue _ p).length_le.trans (Nat.le_of_succ_le_succ rounds))
    · next full => exact fun _ => Nat.le_of_not_lt full

theorem Steady.evaluate (h : Steady s t) : Steady s t.evaluate := h.evaluateQueue _

theorem waitersSound_evaluate (s : State) : s.evaluate.waitersSound := waitersSound_evaluateQueue _ s le_rfl

@[simp] theorem freeSession_sessions (s : State) (n : Nat) (q : Bool) :
    (s.freeSession n q).sessions = s.sessions.eraseP (fun x => x.number == n) := by
  unfold State.freeSession
  cases s.boundLine n <;> simp

/-- The finalized session has its bill, its account one session fewer, and its record is freed (R121). -/
theorem Steady.freeSession (s : State) (n k : Nat) (b : Bill) (f : Account → Account) (quiet : Bool) :
    Steady s ((((s.finalize n).addBill b quiet).mapAccount k f).freeSession n quiet) := by
  have states := states_finalize s n
  have length := length_of_states states
  refine .of_states (by simp) (by simp) (by simp) (by simp) (fun x hx => .inl ?_) (.inl ?_)
  · rw [← states]
    simp only [freeSession_sessions, State.mapAccount_frame, State.addBill_frame] at hx
    exact (List.eraseP_sublist.map _).subset hx
  · simp only [freeSession_sessions, State.mapAccount_frame, State.addBill_frame, ← length]
    exact List.eraseP_sublist.length_le

theorem Kept.closeSession (h : Kept s t) (n : Nat) (c : Cause) : Kept s (t.closeSession n c false) := by
  refine h.trans ?_
  unfold State.closeSession
  dsimp only
  split
  · exact .refl t
  · next x _ =>
    have freed := Steady.freeSession t n x.account ((t.finalize n).billOf x c) (fun a => { a with active := a.active - 1 }) false
    simp only [Bool.false_eq_true, if_false]
    split
    · exact Kept.same ⟨freed.evaluate, fun _ => waitersSound_evaluate _⟩ (by simp [desk]) (by simp)
    · next full => exact Kept.same ⟨freed, fun _ _ => Nat.le_of_not_lt full⟩ (by simp [desk]) (by simp)

theorem Kept.closeAndAct (h : Kept s t) (n : Nat) (c : Cause) : Kept s (t.closeAndAct n c) := by
  have closed := h.closeSession n c
  unfold State.closeAndAct State.closeAction
  dsimp only
  repeat' split
  · exact closed
  · exact (closed.queueMessage _ _).dropWithMessage _
  · exact (closed.queueMessage _ _).dropWithMessage _
  · exact (closed.queueMessage _ _).dropWithMessage _
  · exact ((closed.queueMessage _ _).queueMessage _ _).dropWithMessage _
  · exact closed.dropWithoutMessage _ _
  all_goals exact closed

theorem Kept.closeAll (h : Kept s t) (ns : List Nat) (c : Cause) : Kept s (ns.foldl (fun q n => q.closeAndAct n c) t) := by
  induction ns generalizing t with
  | nil => exact h
  | cons n ns ih => exact ih (h.closeAndAct n c)

/-- A session takes a state that the host state allows (R116, R119). -/
theorem Kept.restate (h : Kept s t) (n : Nat) (f : Session → Session)
    (hf : ∀ x, (f x).state = .held ∨ ((f x).state = .open ∧ t.link.host = .up)) : Kept s (t.mapSession n f) := by
  refine h.trans ⟨.of_states rfl rfl rfl (List.Subset.refl _) (fun st hst => ?_) (.inl (by simp)), fun sound waits => ?_⟩
  · obtain ⟨y, hy, rfl⟩ := List.mem_map.mp hst
    rcases mem_changeFirst hy with was | ⟨x, -, rfl⟩
    · exact .inl (List.mem_map_of_mem was)
    · exact .inr (hf x)
  · simpa using sound waits

theorem Kept.loseLine (h : Kept s t) (n : Nat) (p : Port) (r : HeldReason) : Kept s (t.loseLine n p r) := by
  unfold State.loseLine
  split
  · exact h
  · next x _ =>
    dsimp only
    split
    · exact h.closeSession n _
    · have unbound : Kept s ((t.unbindLine p).mapLine p (fun l => { l with output := [], unreported := [], fill := 0 })) :=
        h.same (by simp [desk]) (by simp)
      have held := unbound.restate n
        (fun y => { y with state := .held, boundLine := none, hold := some x.snapshot.record.holdTime }) fun _ => .inl rfl
      exact held.same (by simp [desk]) (by simp)

theorem Kept.tellHolder (h : Kept s t) (p : Port) (r : HeldReason) : Kept s (t.tellHolder p r) := by
  unfold State.tellHolder
  split
  · exact h.loseLine _ p r
  · exact h.endDialogue p
  · exact h

theorem Kept.takeFault (h : Kept s t) (p : Port) (k : FaultKind) : Kept s (t.takeFault p k) := by
  have judged : Kept s (t.judgeFault p k).1 := h.same (by simp [desk]) (by simp)
  unfold State.takeFault
  dsimp only
  split
  · exact (judged.tellHolder p _).dropWithoutMessage p _
  · exact judged

theorem Kept.countError (h : Kept s t) (p : Port) : Kept s (t.countError p).1 := by
  unfold State.countError
  dsimp only
  split
  · exact (h.mapLine p _).takeFault p _
  · exact h.mapLine p fun l => { l with noiseCount := (t.line p).noiseCount + 1 }

/-! ## Sign-on -/

theorem Kept.refuseSignOn (h : Kept s t) (p : Port) (d : Dialogue) (m : Slot) : Kept s (t.refuseSignOn p d m) := by
  have told :=
    (h.mapLine p (fun l => { l with holder := .dialogue { d with attempts := restAt 5 (d.attempts + 1) } })).queueMessage p m
  unfold State.refuseSignOn
  dsimp only
  split
  · exact told.queueMessage p _
  · exact (told.queueMessage p _).farewell p

theorem Kept.reattach (h : Kept s t) (p : Port) (x : Session) (up : t.link.host = .up) : Kept s (t.reattach p x) := by
  refine Kept.same (h.restate x.number (fun y => { y with
    state := .open, boundLine := some p, hold := none, idle := 0, idleWarned := false,
    reattaches := restAt 255 (y.reattaches + 1), lastLine := p }) fun _ => .inr ⟨rfl, up⟩) ?_ (by simp)
  simp [desk, State.reattach]

/-- A line enters the wait queue while the host is UP and every slot is in use (R97, R103). -/
theorem Kept.enterQueue (h : Kept s t) (p : Port) (d : Dialogue) (a : Nat) (up : t.link.host = .up)
    (full : t.link.limits.hostSlots ≤ t.sessions.length) : Kept s (t.enterQueue p d a) := by
  refine h.trans ⟨⟨by simp, fun ⟨isUp, _⟩ => ⟨fun _ => ?_, fun down => ?_⟩, .inl (by simp)⟩, fun _ _ => by simpa using full⟩
  · simpa using isUp up
  · simp [up] at down

theorem Kept.capacityChecks (h : Kept s t) (p : Port) (d : Dialogue) (a : Account) (up : t.link.host = .up) :
    Kept s (t.capacityChecks p d a) := by
  unfold State.capacityChecks
  repeat' split
  · exact h.refuseSignOn p d _
  · exact h.refuseSignOn p d _
  · next free => exact h.admitLine p a up free
  · next full _ => exact h.enterQueue p d _ up (Nat.le_of_not_lt full)
  · exact (h.queueMessage p _).farewell p

theorem Kept.accountChecks (h : Kept s t) (p : Port) (d : Dialogue) (a : Account) (up : t.link.host = .up) :
    Kept s (t.accountChecks p d a) := by
  unfold State.accountChecks
  repeat' split
  · exact h.refuseSignOn p d _
  · exact h.refuseSignOn p d _
  · exact h.reattach p _ up
  · exact h.capacityChecks p d a up

theorem Kept.judgeRecord (h : Kept s t) (p : Port) (d : Dialogue) (text : List Code) (marks : List Nat) (st : RecordStatus) :
    Kept s (t.judgeRecord p d text marks st) := by
  have counted (a : Account) : Kept s (t.countFailure p a) := h.same (by simp [desk]) (by simp)
  unfold State.judgeRecord
  split
  · exact (h.endDialogue p).dropWithoutMessage p _
  · next up =>
    repeat' split
    · exact h.refuseSignOn p d _
    · exact h.refuseSignOn p d _
    · exact (h.mapAccount _ _).accountChecks p d _ (by simpa using up)
    · exact h.refuseSignOn p d _
    · exact h.refuseSignOn p d _
    · exact (counted _).refuseSignOn p d _
    · exact h.refuseSignOn p d _
    · exact h.refuseSignOn p d _

/-! ## The host state (R118, R119, R175 to R177) -/

/-- A message on the line of each of some sessions leaves the session records. -/
theorem queueMessages_sessions (s : State) (xs : List Session) (m : Slot) :
    (xs.foldl (fun q x => q.queueMessageTo x.boundLine m) s).sessions = s.sessions := by simp

theorem hostDown_sessions (s : State) :
    s.hostDown.sessions = s.sessions.map (fun x => if x.state = .open then { x with state := .stalled } else x) := by
  simp [State.hostDown, State.stallSessions]

theorem emptyQueue_queue (ps : List Port) (s : State) : ∀ p ∈ (s.emptyQueue ps).waitQueue, p ∈ s.waitQueue ∧ p ∉ ps := by
  induction ps generalizing s with
  | nil => exact fun p hp => ⟨hp, List.not_mem_nil⟩
  | cons q ps ih =>
    intro p hp
    obtain ⟨was, other⟩ := ih _ p hp
    have stays := (farewell_queue _ q).subset was
    simp only [State.queueMessage_frame, without, List.mem_filter, decide_eq_true_eq] at stays
    exact ⟨stays.1, fun hp => (List.mem_cons.mp hp).elim stays.2 other⟩

theorem hostDown_queue (s : State) : s.hostDown.waitQueue = [] :=
  List.eq_nil_iff_forall_not_mem.mpr fun p hp => by
    obtain ⟨was, gone⟩ := emptyQueue_queue _ _ p hp
    exact gone was

theorem Kept.hostDown (h : Kept s t) : Kept s t.hostDown := by
  have sessions := hostDown_sessions t
  have down : t.hostDown.link.host = .down := by simp [State.hostDown]
  refine h.trans ⟨⟨by simp, fun _ => ⟨fun up => ?_, fun _ => ⟨fun x hx => ?_, hostDown_queue t⟩⟩, .inl (by simp [sessions])⟩,
    fun _ waits => absurd (hostDown_queue t) waits⟩
  · cases down.symm.trans up
  · rw [sessions] at hx
    obtain ⟨y, -, rfl⟩ := List.mem_map.mp hx
    split
    · exact fun same => by cases same
    · assumption

theorem goodFrame_length (s : State) : s.goodFrame.sessions.length = s.sessions.length := by
  unfold State.goodFrame State.resumeSessions
  dsimp only
  split <;> simp

theorem Kept.goodFrame (h : Kept s t) : Kept s t.goodFrame := by
  have length := goodFrame_length t
  refine h.trans ⟨⟨by simp, fun sound => ?_, .inl length.le⟩, fun sound waits => ?_⟩
  · unfold State.goodFrame
    split
    · exact sound
    · refine ⟨fun _ => ⟨fun x hx => ?_, by simp⟩, fun down => by simp [State.restartTimeout] at down⟩
      simp only [State.resumeSessions, State.queueReport_frame, queueMessages_sessions] at hx
      obtain ⟨y, -, rfl⟩ := List.mem_map.mp hx
      split
      · exact fun same => by cases same
      · assumption
  · rw [length]
    simpa using sound (by simpa using waits)

end Sys2Proof.Machine.Places
end

-- Host state, wait queue and slots: what expiries, marks, calls and characters keep.
section
namespace Sys2Proof.Machine.Places

variable {s t : State}

/-! ## Expiries -/

theorem Kept.answerWindowExpires (h : Kept s t) (p : Port) : Kept s (t.answerWindowExpires p) := by
  unfold State.answerWindowExpires
  split
  · exact h.takeFault p _
  · exact h

theorem Kept.speedWindowExpires (h : Kept s t) (p : Port) : Kept s (t.speedWindowExpires p) := by
  unfold State.speedWindowExpires
  split
  · exact h.takeFault p _
  · exact h

theorem Kept.drainLimitExpires (h : Kept s t) (p : Port) : Kept s (t.drainLimitExpires p) := by
  unfold State.drainLimitExpires
  split
  · exact h.dropWithoutMessage p _
  · exact h

theorem Kept.windowExpires (h : Kept s t) (p : Port) : Kept s (t.windowExpires p) := by
  unfold State.windowExpires
  split
  · exact h.answerWindowExpires p
  · exact h.speedWindowExpires p
  · exact h.drainLimitExpires p
  · exact h.same (by simp [desk]) (by simp)
  · exact h.same (by simp [desk]) (by simp)
  · exact h

theorem Kept.signOnLimitExpires (h : Kept s t) (p : Port) : Kept s (t.signOnLimitExpires p) := by
  unfold State.signOnLimitExpires
  repeat' split
  · exact h
  · exact (h.queueMessage p _).farewell p
  · exact h

theorem Kept.waitLimitExpires (h : Kept s t) (p : Port) : Kept s (t.waitLimitExpires p) := by
  unfold State.waitLimitExpires
  repeat' split
  · exact h
  · exact (h.queueMessage p _).farewell p
  · exact h

theorem Kept.holdExpires (h : Kept s t) (n : Nat) : Kept s (t.holdExpires n) := by
  unfold State.holdExpires
  repeat' split
  · exact h
  · exact h.closeAndAct n _
  · exact h

theorem Kept.idleLimitExpires (h : Kept s t) (n : Nat) : Kept s (t.idleLimitExpires n) := by
  unfold State.idleLimitExpires
  repeat' split
  · exact h
  · exact h.closeAndAct n _
  · exact h

theorem Kept.graceExpires (h : Kept s t) (n : Nat) : Kept s (t.graceExpires n) := by
  unfold State.graceExpires
  repeat' split
  · exact h
  · exact h.closeAndAct n _
  · exact h

theorem Kept.countdownExpires (h : Kept s t) (n : Nat) : Kept s (t.countdownExpires n) := by
  unfold State.countdownExpires
  repeat' split
  · exact h
  · exact h.closeAndAct n _
  · exact h

/-- The host-down limit is changed while the host is DOWN (R176). -/
theorem Kept.setDown (h : Kept s t) (down : t.link.host = .down) (o : Option Nat) (n : Nat) (b : Bool) :
    Kept s { t with link := { t.link with downRemaining := o, secondsDown := n, downExpired := b } } :=
  h.trans ⟨⟨rfl, fun sound => ⟨fun up => absurd (down.symm.trans up) (by decide), sound.2⟩, .inl le_rfl⟩, id⟩

theorem Kept.hostDownLimitExpires (h : Kept s t) : Kept s t.hostDownLimitExpires := by
  unfold State.hostDownLimitExpires State.loseSessions
  split
  · next running =>
    refine Kept.closeAll ?_ _ _
    exact (h.setDown running.1 none t.link.secondsDown true).same (by simp [desk]) (by simp)
  · exact h

theorem Kept.linkTimeoutExpires (h : Kept s t) : Kept s t.linkTimeoutExpires := by
  unfold State.linkTimeoutExpires
  split
  · exact h.hostDown
  · exact h

/-! ## Second marks -/

theorem Kept.lowered (h : Kept s t) : Kept s t.advanceClock.countMark := by
  have clock : Kept s t.advanceClock := h.same (by simp [desk]) (by simp)
  have link : Kept s { t.advanceClock with link := t.advanceClock.link.countMark } := by
    unfold Link.countMark
    split
    · exact clock
    · next down => exact clock.setDown down _ _ _
  exact link.same rfl rfl

theorem Kept.queueMessageTo (h : Kept s t) (o : Option Port) (m : Slot) : Kept s (t.queueMessageTo o m) :=
  h.same (by simp [desk]) (by simp)

theorem Kept.tariffShare (h : Kept s t) (wraps : Bool) (xs ys : List MarkTask) : Kept s (t.tariffShare wraps xs ys) :=
  h.same (by simp [desk, State.tariffShare]) (by simp [State.tariffShare])

theorem Kept.countIdle (h : Kept s t) (n : Nat) : Kept s (t.countIdle n).1 := by
  unfold State.countIdle
  split
  · exact h
  · have counted (k : Nat) := h.keepSession n fun y => { y with idle := k }
    dsimp only
    repeat' split
    · exact (counted _).closeAndAct n _
    · exact Kept.keepSession ((counted _).queueMessageTo _ _) n _
    · exact counted _

theorem Kept.relatch (h : Kept s t) (n : Nat) (v : Latch) : Kept s (t.relatch n v) := h.same (by simp [desk]) (by simp)

theorem Kept.sessionShare (h : Kept s t) (n : Nat) (ran : Bool) (v : Latch) : Kept s (t.sessionShare n ran v) := by
  unfold State.sessionShare
  split
  · exact h
  · split
    · have charged : Kept s ((t.mapSession n fun y =>
          { y with metered := restAt Config.maxMoney (y.metered + 1) }).chargeSecond n ran).1 :=
        h.same (by simp [desk]) (by simp)
      dsimp only
      split
      · next e =>
        rw [e] at charged
        exact charged.closeAndAct n _
      · next e =>
        rw [e] at charged
        have idle := Kept.countIdle charged n
        dsimp only at idle
        split
        · next e2 =>
          rw [e2] at idle
          exact idle
        · next e2 =>
          rw [e2] at idle
          exact idle.relatch n v
    · exact Kept.relatch (h.keepSession n _) n v
    · dsimp only
      split
      · exact Kept.closeAndAct (h.keepSession n _) n _
      · exact Kept.relatch (h.keepSession n _) n v

theorem Kept.runTask (h : Kept s t) (v : Latch) (x : MarkTask) : Kept s (t.runTask v x) := by
  unfold State.runTask
  repeat' split
  · exact h.windowExpires _
  · exact h
  · exact h.signOnLimitExpires _
  · exact h
  · exact h.waitLimitExpires _
  · exact h
  · exact h.mapAccount _ _
  · exact h.hostDownLimitExpires
  · exact h
  · exact h.sessionShare _ _ _

theorem Kept.runTasks (h : Kept s t) (v : Latch) (xs : List MarkTask) : Kept s (t.runTasks v xs) := by
  unfold State.runTasks
  induction xs generalizing t with
  | nil => exact h
  | cons x xs ih => exact ih (h.runTask v x)

theorem Kept.secondMark (h : Kept s t) : Kept s t.secondMark := by
  have lowered : Kept s t.advanceClock.countMark.nextDraw := h.lowered.same (by simp [desk]) (by simp)
  unfold State.secondMark
  dsimp only
  split
  · exact ((lowered.runTasks _ _).tariffShare _ _ _).runTasks _ _
  · exact lowered.runTasks _ _

/-! ## Calls and characters -/

theorem Kept.carrierLost (h : Kept s t) (p : Port) : Kept s (t.carrierLost p) := by
  have hooked (q : State) (kept : Kept s q) : Kept s ((q.goOnHook p .idle).raiseEvent p (.callEnded .carrierLost)) :=
    kept.leave (by simp [desk]) (by simpa using (goOnHook_queue q p .idle).subset)
  unfold State.carrierLost
  dsimp only
  repeat' split
  · exact hooked t h
  · exact hooked _ (h.tellHolder p _)
  · exact hooked t h
  · exact h
  · exact h

theorem Kept.attemptFails (h : Kept s t) (p : Port) : Kept s (t.attemptFails p) := by
  have counted := h.mapLine p fun _ => { t.line p with searchAttempts := (t.line p).searchAttempts + 1, settling := true }
  unfold State.attemptFails
  dsimp only
  repeat' split
  · exact counted
  · exact counted.takeFault p _
  · exact h

theorem Kept.signalLife (h : Kept s t) (p : Port) : Kept s (t.signalLife p) := by
  have queue : (t.signalLife p).waitQueue = t.waitQueue ∧ (t.signalLife p).link = t.link := by
    unfold State.signalLife
    split <;> simp
  exact h.same (by simp [desk, queue]) queue.1

theorem Kept.sendEcho (h : Kept s t) (p : Port) (on : Bool) (r : Assembled) : Kept s (t.sendEcho p on r) := by
  unfold State.sendEcho
  dsimp only
  repeat' split
  all_goals exact h.same (by simp [desk]) (by simp)

theorem Kept.setLine (h : Kept s t) (p : Port) (l : Line) : Kept s (t.setLine p l) := h.same (by simp [desk]) (by simp)

theorem Kept.assembleInput (h : Kept s t) (p : Port) (n : Nat) (c : Code) : Kept s (t.assembleInput p n c) := by
  have echoed := Kept.sendEcho (h.setLine p { t.line p with
    partialRecord := ((t.line p).partialRecord.assemble (t.line p).settings false c).rest }) p (t.line p).echo
    ((t.line p).partialRecord.assemble (t.line p).settings false c)
  unfold State.assembleInput
  dsimp only
  repeat' split
  · exact echoed.mapLine p _
  · exact echoed
  · exact echoed.same (by simp [desk]) (by simp)

theorem Kept.assembleSignOn (h : Kept s t) (p : Port) (d : Dialogue) (c : Code) : Kept s (t.assembleSignOn p d c) := by
  unfold State.assembleSignOn
  dsimp only
  split
  · exact Kept.sendEcho (h.setLine p _) p true _
  · exact (Kept.sendEcho (h.setLine p _) p true _).judgeRecord p d _ _ _

theorem Kept.deliver (h : Kept s t) (p : Port) (c : Code) : Kept s (t.deliver p c) := by
  have bel : Kept s (t.sendBel p) := h.same (by simp [desk]) (by simp)
  unfold State.deliver
  repeat' split
  · exact h
  · exact h
  · exact h.assembleSignOn p _ c
  · exact bel
  · exact h
  · exact h
  · exact bel
  · exact h.assembleInput p _ c
  · exact bel
  · exact h

theorem Kept.receive (h : Kept s t) (p : Port) (c : Code) (bit framing : Bool) : Kept s (t.receive p c bit framing) := by
  have spaced := h.mapLine p fun l => { l with space := .none }
  have counted := (spaced.signalLife p).countError p
  unfold State.receive
  split
  · dsimp only
    split
    · split
      · next e =>
        rw [e] at counted
        exact counted
      · next e =>
        rw [e] at counted
        split
        · exact counted.deliver p _
        · exact counted
    · exact (spaced.signalLife p).deliver p c
  · exact spaced
  · exact h

theorem Kept.breakActs (h : Kept s t) (p : Port) : Kept s (t.breakActs p) := by
  unfold State.breakActs State.breakRecord
  repeat' split
  · exact h
  · exact h.assembleSignOn p _ _
  · exact h
  · exact h
  · dsimp only
    split <;> exact (h.signalLife p).same (by simp [desk]) (by simp)
  · exact h

end Sys2Proof.Machine.Places
end

-- Host state, wait queue and slots: what the orders, the frames and every command leave.
section
namespace Sys2Proof.Machine.Places

variable {s t : State}

/-! ## What an order leaves -/

/-- What every command leaves of the three rules; SET LIMITS changes the host slot limit, which `Kept` does not allow. -/
structure Served (s t : State) : Prop where
  host : s.hostSound → t.hostSound
  waiters : s.waitersSound → t.waitersSound
  room : t.sessions.length ≤ s.sessions.length ∨ t.sessions.length ≤ t.link.limits.hostSlots

theorem Kept.setLink (h : Kept s t) (k : Link) (host : k.host = t.link.host) (down : k.downRemaining = t.link.downRemaining)
    (limits : k.limits = t.link.limits) : Kept s { t with link := k } :=
  h.same (by simp [desk, host, down, limits]) rfl

/-- What an order leaves, its reply placed (R168). -/
structure Answered (s t : State) : Prop extends Served s t where
  reply : t.link.replyPath ≠ none

theorem Kept.served (h : Kept s t) : Served s t := ⟨h.host, h.waiters, h.room⟩

theorem Served.answered (h : Served s t) (k : Byte) (c : ReplyCode) (d : List Byte) : Answered s (t.placeReply k c d) :=
  ⟨⟨h.host, h.waiters, h.room⟩, Option.some_ne_none _⟩

theorem Kept.answered (h : Kept s t) (k : Byte) (c : ReplyCode) (d : List Byte) : Answered s (t.placeReply k c d) :=
  h.served.answered k c d

theorem answered_refuse (s : State) (k : Byte) (c : ReplyCode) : Answered s (s.refuse k c) := (Kept.refl s).answered k c []

/-- What an order leaves, of every state that it finds. -/
def Answers (order : List Byte → State → State) : Prop := ∀ (body : List Byte) (s : State), Answered s (order body s)

/-- An order that changes nothing that the three rules read, and places its reply. -/
def SparesPlaces (order : List Byte → State → State) : Prop :=
  ∀ (body : List Byte) (s : State), desk (order body s) = desk s ∧ (order body s).waitQueue = s.waitQueue
    ∧ (order body s).link.replyPath ≠ none

theorem SparesPlaces.answers {order : List Byte → State → State} (h : SparesPlaces order) : Answers order := fun body s =>
  let ⟨read, queue, reply⟩ := h body s
  ⟨((Kept.refl s).same read queue).served, reply⟩

@[simp] theorem placeReply_replyPath (s : State) (k : Byte) (c : ReplyCode) (d : List Byte) :
    (s.placeReply k c d).link.replyPath = some ⟨k, c, d⟩ := rfl

@[simp] theorem refuse_replyPath (s : State) (k : Byte) (c : ReplyCode) :
    (s.refuse k c).link.replyPath = some ⟨k, c, []⟩ := rfl

/-! ## Orders on the part -/

theorem spares_mark : SparesPlaces orderMark := by
  intro body s
  unfold orderMark
  split <;> simp [desk]

theorem spares_setClock : SparesPlaces orderSetClock := by
  intro body s
  unfold orderSetClock State.setClockTo
  split <;> simp [desk]

theorem spares_setReports : SparesPlaces orderSetReports := by
  intro body s
  unfold orderSetReports
  split <;> simp [desk]

theorem spares_setMessage : SparesPlaces orderSetMessage := by
  intro body s
  unfold orderSetMessage
  split <;> simp [desk]

theorem spares_setFaultPolicy : SparesPlaces orderSetFaultPolicy := by
  intro body s
  unfold orderSetFaultPolicy
  split <;> simp [desk]

theorem spares_setClass : SparesPlaces orderSetClass := by
  intro body s
  unfold orderSetClass
  split <;> simp [desk]

theorem spares_setLoadSteps : SparesPlaces orderSetLoadSteps := by
  intro body s
  unfold orderSetLoadSteps State.storeLoadSteps
  dsimp only
  repeat' split
  all_goals simp [desk]

theorem quietClose_sessions (s : State) (n : Nat) (c : Cause) :
    (s.closeSession n c true).sessions = s.sessions.eraseP (fun x => x.number == n) := by
  obtain ⟨erased, same⟩ := InOut.meterOnly_finalize n s
  unfold State.closeSession
  dsimp only
  split
  · next gone =>
    have none : s.findSession n = none := by
      by_contra found
      obtain ⟨x, found⟩ := Option.ne_none_iff_exists'.mp found
      obtain ⟨m, found⟩ := same x found
      cases gone.symm.trans found
    exact (List.eraseP_of_forall_not (by simpa [State.findSession] using none)).symm
  · simpa using erased

/-- Closing every session of the table leaves none (R127). -/
theorem quietCloses_sessions (ns : List Nat) (c : Cause) (s : State) (all : ns.Perm (s.sessions.map Session.number)) :
    (ns.foldl (fun q n => q.closeSession n c true) s).sessions = [] := by
  induction ns generalizing s with
  | nil => simpa using all
  | cons n ns ih =>
    refine ih _ ?_
    have erased : (s.closeSession n c true).sessions.map Session.number = (s.sessions.map Session.number).erase n := by
      have key : (fun x : Session => x.number == n) = (fun m => n == m) ∘ Session.number := funext fun x => Bool.beq_comm
      rw [quietClose_sessions, List.erase_eq_eraseP, List.eraseP_map, key]
    rw [erased]
    simpa using all.erase n

theorem quietClose_queue (s : State) (n : Nat) (c : Cause) : (s.closeSession n c true).waitQueue = s.waitQueue := by
  unfold State.closeSession
  dsimp only
  split <;> simp

theorem quietCloses_keep (ns : List Nat) (c : Cause) (s : State) :
    (ns.foldl (fun q n => q.closeSession n c true) s).waitQueue = s.waitQueue ∧
      (ns.foldl (fun q n => q.closeSession n c true) s).link.limits = s.link.limits := by
  induction ns generalizing s with
  | nil => exact ⟨rfl, rfl⟩
  | cons n ns ih => simpa [quietClose_queue] using ih (s.closeSession n c true)

theorem restartSessions_sessions (s : State) : s.restartSessions.sessions = [] :=
  quietCloses_sessions _ _ _ (s.drawOrder_perm _)

theorem Kept.restartPart (h : Kept s t) : Kept s t.restartPart := by
  have sessions : t.restartPart.sessions = [] := by
    simpa [State.restartPart, State.restartMonitor] using restartSessions_sessions _
  obtain ⟨queue, limits⟩ := quietCloses_keep
    (t.restartQueues.restartDialogues.drawOrder (t.restartQueues.restartDialogues.sessions.map (·.number))) .restart
    t.restartQueues.restartDialogues.nextDraw
  have empty : t.restartPart.waitQueue = [] := by
    simp only [State.restartPart, State.restartMonitor, State.restartTimeout_frame, State.restartSessions, queue]
    rfl
  have same : t.restartPart.link.limits = t.link.limits := by
    simp only [State.restartPart, State.restartMonitor, State.restartTimeout_frame, State.restartSessions, limits]
    rfl
  refine h.trans ⟨⟨same, fun _ => ⟨fun _ => ⟨by simp [sessions], rfl⟩, fun down => ?_⟩, .inl (by simp [sessions])⟩,
    fun _ waits => absurd empty waits⟩
  cases down

theorem answers_restart : Answers orderRestart := by
  intro body s
  unfold orderRestart
  split
  · exact (Kept.refl s).restartPart.answered _ _ _
  · exact answered_refuse s _ _

/-- SET LIMITS: with the host slot limit raised above slots in use the wait queue is evaluated, and otherwise a line that waits
finds no slot (R105, R173). -/
theorem served_storeLimits (s : State) (x : Limits) : Served s (s.storeLimits x) := by
  unfold State.storeLimits
  dsimp only
  split
  · have evaluated := (Steady.refl ({ s with link := { s.link with limits := x } } : State).restartTimeout).evaluate
    exact ⟨evaluated.host, fun _ => waitersSound_evaluate _, evaluated.room⟩
  · next stays =>
    refine ⟨id, fun sound waits => ?_, .inl le_rfl⟩
    have full : s.link.limits.hostSlots ≤ s.sessions.length := sound waits
    change x.hostSlots ≤ s.sessions.length
    by_contra free
    exact stays ⟨full.trans_lt (Nat.lt_of_not_le free), Nat.lt_of_not_le free⟩

theorem answers_setLimits : Answers orderSetLimits := by
  intro body s
  unfold orderSetLimits
  split
  · exact (served_storeLimits s _).answered _ _ _
  · exact answered_refuse s _ _

/-! ## Orders on accounts and tariffs -/

theorem spares_loadAccount : SparesPlaces orderLoadAccount := by
  intro body s
  unfold orderLoadAccount State.loadAccount State.loadReply
  repeat' split
  all_goals simp [desk]

theorem spares_creditAccount : SparesPlaces orderCreditAccount := by
  intro body s
  unfold orderCreditAccount
  repeat' split
  all_goals simp [desk]

theorem spares_dropAccount : SparesPlaces orderDropAccount := by
  intro body s
  unfold orderDropAccount State.removeAccount
  repeat' split
  all_goals simp [desk]

theorem spares_unlockAccount : SparesPlaces orderUnlockAccount := by
  intro body s
  unfold orderUnlockAccount
  repeat' split
  all_goals simp [desk]

theorem spares_queryAccount : SparesPlaces orderQueryAccount := by
  intro body s
  unfold orderQueryAccount
  repeat' split
  all_goals simp [desk]

theorem spares_tariffClear : SparesPlaces orderTariffClear := by
  intro body s
  unfold orderTariffClear
  repeat' split
  all_goals simp [desk]

theorem spares_tariffEntry : SparesPlaces orderTariffEntry := by
  intro body s
  unfold orderTariffEntry State.writeStandby
  repeat' split
  all_goals simp [desk]

theorem spares_commitTariff : SparesPlaces orderCommitTariff := by
  intro body s
  unfold orderCommitTariff
  repeat' split
  all_goals simp [desk]

theorem spares_queryTariff : SparesPlaces orderQueryTariff := by
  intro body s
  unfold orderQueryTariff
  repeat' split
  all_goals simp [desk]

/-! ## Orders on lines, sessions and bills -/

theorem spares_setLine : SparesPlaces orderSetLine := by
  intro body s
  unfold orderSetLine State.setCallGroup State.setInputGroup
  repeat' split
  all_goals simp [desk]

theorem spares_queryLine : SparesPlaces orderQueryLine := by
  intro body s
  unfold orderQueryLine
  split <;> simp [desk]

theorem spares_sendText : SparesPlaces orderSendText := by
  intro body s
  unfold orderSendText State.sendHostText
  repeat' split
  all_goals simp [desk]

theorem spares_querySession : SparesPlaces orderQuerySession := by
  intro body s
  unfold orderQuerySession
  repeat' split
  all_goals simp [desk]

theorem spares_takeBill : SparesPlaces orderTakeBill := by
  intro body s
  unfold orderTakeBill
  repeat' split
  all_goals simp [desk]

theorem spares_unknown (kind : Byte) : SparesPlaces (orderUnknown kind) := by
  intro body s
  simp [orderUnknown, desk]

theorem Kept.serviceOut (h : Kept s t) (p : Port) : Kept s (t.serviceOut p) := by
  have removed : Kept s (t.removeHolder p) := by
    unfold State.removeHolder
    repeat' split
    · exact h.closeSession _ _
    · exact h.endDialogue p
    · exact h
    · exact h
  unfold State.serviceOut
  dsimp only
  repeat' split
  · exact h
  · exact removed.leave (by simp [desk]) (by simp)
  · exact removed.leave (by simp [desk]) (by simp)

theorem answers_lineService : Answers orderLineService := by
  intro body s
  unfold orderLineService
  split
  · unfold State.serviceIn
    repeat' split
    · exact ((Kept.refl s).mapLine _ _).answered _ _ _
    · exact answered_refuse s _ _
    · exact (Kept.refl s).answered _ _ _
  · exact ((Kept.refl s).serviceOut _).answered _ _ _
  · next p _ =>
    have restored : Kept s (s.serviceRestore p) := by
      unfold State.serviceRestore
      split
      · exact (Kept.refl s).same (by simp [desk]) (by simp)
      · exact (Kept.refl s).same (by simp [desk]) (by simp)
      · exact .refl s
    exact restored.answered _ _ _
  · exact answered_refuse s _ _

theorem answers_dropLine : Answers orderDropLine := by
  intro body s
  unfold orderDropLine State.dropCall State.dropConnected
  repeat' split
  · exact ((Kept.refl s).dropWithoutMessage _ _).answered _ _ _
  · exact ((Kept.refl s).dropWithoutMessage _ _).answered _ _ _
  · exact ((Kept.refl s).closeAndAct _ _).answered _ _ _
  · exact (((Kept.refl s).endDialogue _).dropWithoutMessage _ _).answered _ _ _
  · exact ((Kept.refl s).dropWithoutMessage _ _).answered _ _ _
  · exact answered_refuse s _ _
  · exact answered_refuse s _ _

theorem answers_endSession : Answers orderEndSession := by
  intro body s
  unfold orderEndSession
  repeat' split
  · exact answered_refuse s _ _
  · exact answered_refuse s _ _
  · exact ((Kept.refl s).closeAndAct _ _).answered _ _ _

/-! ## Frames -/

theorem answers_orderFor {kind : Byte} {order : List Byte → State → State} (e : orderFor kind = some order) :
    Answers order := by
  unfold orderFor at e
  split at e <;> cases e
  · exact spares_mark.answers
  · exact answers_restart
  · exact spares_setClock.answers
  · exact answers_setLimits
  · exact spares_setReports.answers
  · exact spares_setMessage.answers
  · exact spares_setFaultPolicy.answers
  · exact spares_setClass.answers
  · exact spares_setLoadSteps.answers
  · exact spares_loadAccount.answers
  · exact spares_creditAccount.answers
  · exact spares_dropAccount.answers
  · exact spares_unlockAccount.answers
  · exact spares_queryAccount.answers
  · exact spares_tariffClear.answers
  · exact spares_tariffEntry.answers
  · exact spares_commitTariff.answers
  · exact spares_queryTariff.answers
  · exact answers_lineService
  · exact spares_setLine.answers
  · exact answers_dropLine
  · exact spares_queryLine.answers
  · exact spares_sendText.answers
  · exact answers_endSession
  · exact spares_querySession.answers
  · exact spares_takeBill.answers

/-- An order is carried out behind what its good frame does to the link monitor (R175, R177). -/
theorem Answers.heard {order : List Byte → State → State} (h : Answers order) (body : List Byte) (s : State) :
    Answered s (order body s.goodFrame) := by
  have frame := (Kept.refl s).goodFrame
  obtain ⟨⟨host, waiters, room⟩, reply⟩ := h body s.goodFrame
  exact ⟨⟨host ∘ frame.host, waiters ∘ frame.waiters, goodFrame_length s ▸ room⟩, reply⟩

theorem answered_carryOut (s : State) (f : Frame) : Answered s (s.carryOut f) := by
  unfold State.carryOut
  repeat' split
  · next e => exact (answers_orderFor e).heard _ s
  · exact (spares_unknown _).answers.heard _ s
  · exact (Kept.refl s).answered _ _ _

/-- What bytes of the host leave: nothing that is read has changed, or one order has been carried out and its reply bars the way
to another (R167). -/
def Taken (s t : State) : Prop := (desk t = desk s ∧ t.waitQueue = s.waitQueue) ∨ Answered s t

theorem taken_takeBytes (s : State) (bs : List Byte) : Taken s (s.takeBytes bs) := by
  refine State.takeBytes_keeps (Taken s) (fun t f _ unanswered taken => ?_) (fun _ _ taken => ?_)
    (fun _ _ _ taken => ?_) s bs (.inl ⟨rfl, rfl⟩)
  · rcases taken with ⟨read, queue⟩ | answered
    · have kept := (Kept.refl s).same read queue
      obtain ⟨served, reply⟩ := answered_carryOut t f
      have length : t.sessions.length = s.sessions.length := length_of_states (Prod.mk.inj read).1
      exact .inr ⟨⟨served.host ∘ kept.host, served.waiters ∘ kept.waiters, length ▸ served.room⟩, reply⟩
    · exact absurd unanswered answered.reply
  all_goals exact taken.imp id fun ⟨⟨host, waiters, room⟩, reply⟩ => ⟨⟨host, waiters, room⟩, reply⟩

theorem Taken.served (h : Taken s t) : Served s t := by
  rcases h with ⟨read, queue⟩ | answered
  · exact ((Kept.refl s).same read queue).served
  · exact answered.toServed

theorem served_takeFrame (s : State) (f : Frame) (carry : State → State) (h : Served s (carry s)) :
    Served s (s.takeFrame f carry) := by
  unfold State.takeFrame State.meetFrame
  repeat' split
  · exact (Kept.refl s).served
  · refine Kept.served ?_
    exact (Kept.refl s).setLink _ rfl rfl rfl
  · exact h
  · exact (taken_takeBytes s _).served

theorem served_takeOrder (s : State) (kind : Byte) (body : List Byte) {order : List Byte → State → State}
    (h : Answers order) : Served s (s.takeOrder kind body order) := served_takeFrame s _ _ (h.heard body s).toServed

theorem served_sendReply (s : State) (r : Reply) : Served s (s.sendReply r) := by
  unfold State.sendReply
  dsimp only
  split
  · obtain ⟨⟨host, waiters, room⟩, -⟩ := answered_carryOut
      { s with link := { s.link with sending := r.frame, replyPath := none, heldOrder := none } } _
    exact ⟨host, waiters, room⟩
  · refine Kept.served ?_
    exact (Kept.refl s).setLink _ rfl rfl rfl

/-! ## Every command -/

/-- The power-up values are sound, with no session record (R180). -/
theorem served_powerUp (s : State) : Served s s.powerUp :=
  ⟨fun _ => ⟨fun _ => ⟨fun _ hx => absurd hx List.not_mem_nil, rfl⟩, fun down => by cases down⟩, fun _ waits => absurd rfl waits,
    .inl (Nat.zero_le _)⟩

/-- Every command has a next state, which keeps the agreement of host state and sessions and of wait queue and slots, and has no
more session records than before or than the host slot limit. -/
theorem served_exec (c : Instr) (s : State) : ∃ t, exec c s = .next t ∧ Served s t := by
  by_cases frame : ∃ f, frameOf c = some f
  · obtain ⟨⟨kind, body⟩, e⟩ := frame
    obtain ⟨order, listed | rfl, run⟩ := Accounts.exec_of_frame e s
    · exact ⟨_, run, served_takeOrder s kind body (answers_orderFor listed)⟩
    · exact ⟨_, run, served_takeOrder s kind body (spares_unknown kind).answers⟩
  have kept := Kept.refl s
  cases c with
  | powerUp => exact ⟨_, rfl, served_powerUp s⟩
  | secondMark => exact ⟨_, rfl, kept.secondMark.served⟩
  | answerWindowExpiry p => exact ⟨_, rfl, (kept.answerWindowExpires p).served⟩
  | speedWindowExpiry p => exact ⟨_, rfl, (kept.speedWindowExpires p).served⟩
  | drainLimitExpiry p => exact ⟨_, rfl, (kept.drainLimitExpires p).served⟩
  | guardTimeExpiry p | retryPeriodExpiry p | noiseWindowExpiry p =>
    exact ⟨_, rfl, (kept.same (by simp [desk]) (by simp)).served⟩
  | ringIndicateChange p _ | ringStart p | abandonTimerExpiry p | carrierDetectChange p _ | settleInterval p | breakPending p =>
    exact ⟨_, rfl, (kept.mapLine p _).served⟩
  | signOnLimitExpiry p => exact ⟨_, rfl, (kept.signOnLimitExpires p).served⟩
  | waitLimitExpiry p => exact ⟨_, rfl, (kept.waitLimitExpires p).served⟩
  | lockTimerExpiry a => exact ⟨_, rfl, (kept.mapAccount a _).served⟩
  | holdExpiry n => exact ⟨_, rfl, (kept.holdExpires n).served⟩
  | idleLimitExpiry n => exact ⟨_, rfl, (kept.idleLimitExpires n).served⟩
  | fundsGraceExpiry n => exact ⟨_, rfl, (kept.graceExpires n).served⟩
  | closingCountdownExpiry n => exact ⟨_, rfl, (kept.countdownExpires n).served⟩
  | hostDownLimitExpiry => exact ⟨_, rfl, kept.hostDownLimitExpires.served⟩
  | linkTimeoutExpiry => exact ⟨_, rfl, kept.linkTimeoutExpires.served⟩
  | ringCompletion p =>
    refine ⟨_, rfl, (kept.same ?_ ?_).served⟩
    all_goals
      unfold State.ringCompletes
      dsimp only
      repeat' split
    all_goals simp [desk]
  | ringStuck p =>
    refine ⟨_, rfl, (kept.same ?_ ?_).served⟩
    all_goals
      unfold State.ringSticks
      split
    all_goals simp [desk]
  | carrierQualifiedPresent p =>
    refine ⟨_, rfl, (kept.same ?_ ?_).served⟩
    all_goals
      unfold State.carrierQualifies
      dsimp only
      split
    all_goals simp [desk]
  | carrierQualifiedLost p => exact ⟨_, rfl, (kept.carrierLost p).served⟩
  | speedFound p width eighth =>
    refine ⟨_, rfl, (kept.same ?_ ?_).served⟩
    all_goals
      unfold State.speedFound
      repeat' split
    all_goals simp [desk]
  | searchAttemptFailed p f =>
    refine ⟨_, rfl, ?_⟩
    split
    · exact (kept.attemptFails p).served
    · exact kept.served
  | characterReceived p c bit => exact ⟨_, rfl, (kept.receive p c bit false).served⟩
  | heldCharacterReceived p c bit => exact ⟨_, rfl, (kept.receive p c bit true).served⟩
  | breakReceived p =>
    have spaced := kept.mapLine p fun l => { l with space := .none }
    refine ⟨_, rfl, ?_⟩
    dsimp only
    repeat' split
    · exact spaced.served
    · exact (spaced.breakActs p).served
    · exact spaced.served
  | longSpace p =>
    have spaced := kept.mapLine p fun l => { l with space := .longSpace }
    refine ⟨_, rfl, ?_⟩
    split
    · exact (spaced.takeFault p _).served
    · exact spaced.served
    · exact kept.served
  | characterSent p =>
    refine ⟨_, rfl, (kept.same ?_ ?_).served⟩
    all_goals
      unfold State.sendCharacter
      dsimp only
      repeat' split
    all_goals simp [desk]
  | partMessageSent p m =>
    refine ⟨_, rfl, ?_⟩
    repeat' split
    · exact (kept.setLine p _).served
    · exact kept.served
    · exact kept.served
  | dropDrained p =>
    refine ⟨_, rfl, ?_⟩
    split
    · exact (kept.dropWithoutMessage p _).served
    · exact kept.served
  | frameLengthDiscard kind length =>
    refine ⟨_, rfl, ?_⟩
    split
    · exact kept.served
    · exact (taken_takeBytes s _).served
  | frameBadCheck kind body check => exact ⟨_, rfl, served_takeFrame s _ _ (kept.answered _ _ _).toServed⟩
  | replySendStart =>
    refine ⟨_, rfl, ?_⟩
    split
    · exact served_sendReply s _
    · exact kept.served
  | reportSendStart =>
    refine ⟨_, rfl, ?_⟩
    split
    · exact (kept.same (by simp [desk, State.sendReport]) (by simp [State.sendReport])).served
    · exact kept.served
  | _ => exact absurd ⟨_, rfl⟩ frame

theorem served_of_exec {c : Instr} (run : exec c s = .next t) : Served s t := by
  obtain ⟨u, run', served⟩ := served_exec c s
  cases run'.symm.trans run
  exact served

/-- A step is one command, or none. -/
theorem served_step (run : step s = .next t) : Served s t := by
  unfold step at run
  split at run
  · cases run
    exact (Kept.refl s).served
  · next c rest _ =>
    obtain ⟨host, waiters, room⟩ := served_of_exec (s := s.withPending rest) run
    exact ⟨host, waiters, room⟩

/-- Settles O54: every operation of the part keeps host state and session states in agreement, and a step is one command. -/
theorem stepKeepsTheHostState : Obligations.StepKeepsTheHostState := fun _ _ sound run => (served_step run).host sound

/-- Settles O55: a line enters the wait queue where no slot is free, and every close and every raise of the limit evaluates it. -/
theorem stepKeepsWaitersOnlyWhenFull : Obligations.StepKeepsWaitersOnlyWhenFull :=
  fun _ _ sound run => (served_step run).waiters sound

/-- Settles O60: every admission finds a slot free under the limit in force, and no command carries out two orders. -/
theorem admissionsKeepTheHostSlotLimit : Obligations.AdmissionsKeepTheHostSlotLimit := fun _ _ _ run => (served_of_exec run).room

end Sys2Proof.Machine.Places
end

-- A sign-on that is given its session back, or waits for a slot.
section
namespace Sys2Proof.Machine.Places

open Accounts (entered cleared returned exec_return judgeRecord_open currentRate_open)

/-! ## A message on a line, and a dialogue's farewell (R44, R95, R99) -/

/-- An output queue behind which a message of the table was queued. -/
def told (s : State) (m : Slot) (out : List OutChar) : List OutChar :=
  if out.length + (s.messages[m].length + 2) ≤ 256 then out ++ messageChars s.messages[m] m else out

theorem told_codes (s : State) (m : Slot) (out : List OutChar) :
    (told s m out).map (·.code) = joined (out.map (·.code)) s.messages[m] := by
  unfold told joined
  rw [List.length_map]
  split
  · simp [messageChars, messageCodes, Function.comp_def]
  · rfl

theorem queueMessage_told (s : State) (p : Port) (m : Slot) :
    s.queueMessage p m = s.setLine p { s.line p with output := told s m (s.line p).output } := s.queueMessage_eq p m

/-- A line record that was told `m` and dropped with that message, its dialogue in FAREWELL (R14, R95). -/
def turnedAway (s : State) (p : Port) (d : Dialogue) (m : Slot) : Line :=
  { s.line p with
    output := told s m (s.line p).output, state := .dropping, window := some 10, noiseCount := 0, noiseWindow := none,
    holder := .dialogue ⟨.farewell, d.attempts, .stopped, none, none⟩ }

/-- A CONNECTED line in a dialogue is dropped with a message: it leaves the wait queue, and nothing else changes (R95, R106). -/
theorem farewell_told {s : State} {p : Port} {d : Dialogue} (connected : (s.line p).state = .connected)
    (talks : (s.line p).holder = .dialogue d) (m : Slot) :
    (s.queueMessage p m).farewell p =
      { s with lines := s.lines.set p (turnedAway s p d m), waitQueue := without p s.waitQueue } := by
  rw [queueMessage_told]
  have still (l : Line) (q : List Port) : State.line { s.setLine p l with waitQueue := q } p = l := s.line_setLine_same p l
  simp only [State.farewell, State.mapLine, talks, InOut.setLine_setLine, State.dropWithMessage, still, connected]
  exact congrArg (fun v => ({ s with lines := v, waitQueue := without p s.waitQueue } : State)) (Vector.set_set _ _)

/-! ## The session that is given back (R97, R100) -/

theorem sooner_either (x y : Session) : sooner x y = x ∨ sooner x y = y := by
  unfold sooner
  dsimp only
  repeat' split
  all_goals simp

section
variable {x y : Session} {i j : Nat} (hx : x.hold = some i) (hy : y.hold = some j)
include hx hy

theorem sooner_eq_first (order : i < j ∨ (i = j ∧ x.number ≤ y.number)) : sooner x y = x := by
  simp only [sooner, hx, hy, Option.getD_some]
  rcases order with less | ⟨rfl, le⟩
  · exact if_pos less
  · rw [if_neg (Nat.lt_irrefl i), if_neg (Nat.lt_irrefl i), if_pos le]

theorem sooner_eq_second (order : j < i ∨ (j = i ∧ y.number < x.number)) : sooner x y = y := by
  simp only [sooner, hx, hy, Option.getD_some]
  rcases order with less | ⟨rfl, lt⟩
  · rw [if_neg (by omega), if_pos less]
  · rw [if_neg (Nat.lt_irrefl j), if_neg (Nat.lt_irrefl j), if_neg (by omega)]

end

theorem foldl_sooner_mem (xs : List Session) (z : Session) : xs.foldl sooner z ∈ z :: xs := by
  induction xs generalizing z with
  | nil => exact List.mem_cons_self ..
  | cons x xs ih =>
    rw [List.foldl_cons]
    rcases sooner_either z x with first | second
    · rw [first]
      exact List.cons_subset_cons z (List.subset_cons_self x xs) (ih z)
    · rw [second]
      exact List.mem_cons_of_mem z (ih x)

/-- A record that comes before each one ahead of it, and that none behind it comes before, is the one of the comparison. -/
theorem foldl_sooner_eq {before after : List Session} {x : Session} (ahead : ∀ y ∈ before, sooner y x = x)
    (behind : ∀ y ∈ after, sooner x y = x) :
    ∀ z zs, before ++ x :: after = z :: zs → zs.foldl sooner z = x := by
  have stays : after.foldl sooner x = x := by
    induction after with
    | nil => rfl
    | cons y ys ih =>
      rw [List.foldl_cons, behind y (List.mem_cons_self ..)]
      exact ih fun y hy => behind y (List.mem_cons_of_mem _ hy)
  intro z zs e
  cases before with
  | nil =>
    obtain ⟨rfl, rfl⟩ := List.cons.inj e
    exact stays
  | cons y ys =>
    obtain ⟨rfl, rest⟩ := List.cons.inj e
    rw [← rest]
    change List.foldl sooner y (ys ++ x :: after) = x
    rw [List.foldl_append, List.foldl_cons, ahead _ (foldl_sooner_mem ys y), stays]

theorem heldSession_soonest {s : State} {n h : Nat} {x : Session} (soonest : s.soonest n x h) : s.heldSession n = some x := by
  obtain ⟨found, account, held, hold, least⟩ := soonest
  obtain ⟨-, before, after, table, others⟩ := List.find?_eq_some_iff_append.mp found
  let mine (y : Session) : Bool := y.account == n && y.state == .held
  have kept : s.sessions.filter mine = before.filter mine ++ x :: after.filter mine := by
    rw [table, List.filter_append, List.filter_cons_of_pos (by simp [mine, account, held])]
  have key (y : Session) (hy : y ∈ s.sessions) (yes : mine y = true) :
      ∃ k, y.hold = some k ∧ (h < k ∨ (h = k ∧ x.number ≤ y.number)) := by
    simp only [mine, Bool.and_eq_true, beq_iff_eq] at yes
    exact least y hy yes.1 yes.2
  have ahead : ∀ y ∈ before.filter mine, sooner y x = x := by
    intro y hy
    obtain ⟨hy, yes⟩ := List.mem_filter.mp hy
    have other : y.number ≠ x.number := by simpa using others y hy
    obtain ⟨k, hk, order⟩ := key y (by rw [table]; exact List.mem_append_left _ hy) yes
    exact sooner_eq_second hk hold (by omega)
  have behind : ∀ y ∈ after.filter mine, sooner x y = x := by
    intro y hy
    obtain ⟨hy, yes⟩ := List.mem_filter.mp hy
    obtain ⟨k, hk, order⟩ := key y (by rw [table]; exact List.mem_append_right _ (List.mem_cons_of_mem _ hy)) yes
    exact sooner_eq_first hold hk order
  unfold State.heldSession
  split
  · next none =>
    rw [show s.sessions.filter (fun x => x.account == n && x.state == .held) = _ from kept] at none
    simp at none
  · next z zs some => exact congrArg _ (foldl_sooner_eq ahead behind z zs (kept.symm.trans some))

/-! ## The reattach (R101, R149) -/

/-- The record of a HELD session that is given back on line `p` (R101). -/
def givenBack (p : Port) (y : Session) : Session :=
  { y with state := .open, boundLine := some p, hold := none, idle := 0, idleWarned := false,
           reattaches := restAt 255 (y.reattaches + 1), lastLine := p }

/-- The state in which line `p` holds session `m` again: its output queue, the session table and the link are given. -/
def resumed (s : State) (p : Port) (m : Nat) (out : List OutChar) (xs : List Session) (k : Link) : State :=
  { s with
    lines := s.lines.set p { s.line p with output := out, holder := .session m, retryCount := 0 }, sessions := xs, link := k }

section
variable {s : State} {p : Port} {m : Nat} {out : List OutChar} {xs : List Session} {k : Link}

theorem line_resumed :
    (resumed s p m out xs k).line p = { s.line p with output := out, holder := .session m, retryCount := 0 } := by
  simp [resumed, State.line]

theorem resumed_queueMessage (slot : Slot) :
    (resumed s p m out xs k).queueMessage p slot = resumed s p m (told s slot out) xs k := by
  rw [queueMessage_told, line_resumed]
  exact congrArg (fun v => ({ s with lines := v, sessions := xs, link := k } : State)) (Vector.set_set _ _)

theorem reattach_eq (s : State) (p : Port) (x : Session) :
    s.reattach p x = (resumed s p x.number (told s slotResumed (s.line p).output)
      (changeFirst (fun y => y.number == x.number) (givenBack p) s.sessions)
      (s.link.reported (.sessionResumed x.number x.account p))).lowFundsTest x.number := by
  let on_line (l : Line) : Line := { l with retryCount := 0, holder := .session x.number }
  have bound : (s.mapSession x.number (givenBack p)).mapLine p on_line =
      resumed s p x.number (s.line p).output (s.mapSession x.number (givenBack p)).sessions s.link := rfl
  have run : s.reattach p x =
      ((((s.mapSession x.number (givenBack p)).mapLine p on_line).queueMessage p slotResumed).queueReport
        (.sessionResumed x.number x.account p)).lowFundsTest x.number := rfl
  rw [run, bound, resumed_queueMessage, State.queueReport_eq]
  rfl

/-- The low-funds test of a session that holds its line again (R149). -/
theorem lowFundsTest_resumed {y : Session} (found : xs.find? (fun z => z.number == m) = some y) (bound : y.boundLine = some p)
    {a : Account} (record : s.findAccount y.account = some a) :
    (resumed s p m out xs k).lowFundsTest m =
      if y.snapshot.record.lowFunds ≠ 0 ∧ a.balance ≤ y.snapshot.record.lowFunds ∧ y.fundsWarned = false then
        resumed s p m (told s slotFundsLow out)
          (changeFirst (fun z => z.number == m) (fun z => { z with fundsWarned := true }) xs)
          (k.reported (.fundsLow m y.account (some p) a.balance))
      else resumed s p m out xs k := by
  have session : (resumed s p m out xs k).findSession m = some y := found
  have balance : (resumed s p m out xs k).balanceOf y.account = a.balance := by
    change ((s.findAccount y.account).map Account.balance).getD 0 = _
    rw [record]
    rfl
  unfold State.lowFundsTest
  simp only [session, balance, bound, State.queueMessageTo, resumed_queueMessage, State.queueReport_eq]
  rfl

/-- A session that is given back holds the line and has told so, and FUNDS LOW behind it where that is due (R101, R149). -/
theorem reattach_resumed {x : Session} (found : s.findSession x.number = some x) {a : Account}
    (record : s.findAccount x.account = some a) :
    s.reattach p x =
      if x.snapshot.record.lowFunds ≠ 0 ∧ a.balance ≤ x.snapshot.record.lowFunds ∧ x.fundsWarned = false then
        resumed s p x.number (told s slotFundsLow (told s slotResumed (s.line p).output))
          (changeFirst (fun y => y.number == x.number) (fun z => { z with fundsWarned := true })
            (changeFirst (fun y => y.number == x.number) (givenBack p) s.sessions))
          ((s.link.reported (.sessionResumed x.number x.account p)).reported
            (.fundsLow x.number x.account (some p) a.balance))
      else resumed s p x.number (told s slotResumed (s.line p).output)
        (changeFirst (fun y => y.number == x.number) (givenBack p) s.sessions)
        (s.link.reported (.sessionResumed x.number x.account p)) := by
  have back := find_changeFirst_same (f := givenBack p) found (by simp [givenBack])
  rw [reattach_eq, lowFundsTest_resumed back rfl (by exact record)]
  rfl

/-- The record of another session number is as before a change that keeps the number. -/
theorem find_changed_ne {f : Session → Session} (keeps : ∀ z, (f z).number = z.number) {k : Nat} (other : k ≠ m)
    (xs : List Session) :
    (changeFirst (fun y => y.number == m) f xs).find? (fun y => y.number == k) = xs.find? (fun y => y.number == k) := by
  refine find_changeFirst_other _ fun x hx => ?_
  have hx : x.number = m := by simpa using hx
  simp [keeps, hx, Ne.symm other]

end

/-! ## The checks before the last (R93, R97) -/

section
variable {s : State} {p : Port} {d : Dialogue} {a : Account} {cu : Nat}

theorem funded {s : State} {a : Account} (funds : a.balance ≠ 0 ∨ (s.classes[a.classNo]).free = true) :
    ¬ (a.balance = 0 ∧ (s.classes[a.classNo]).free = false) := by
  rintro ⟨zero, paid⟩
  exact funds.elim (· zero) fun free => absurd (free.symm.trans paid) (by decide)

theorem accountChecks_funded (rate : s.openAt a.classNo cu) (funds : a.balance ≠ 0 ∨ (s.classes[a.classNo]).free = true) :
    (∀ x, s.heldSession a.number = some x → s.accountChecks p d a = s.reattach p x) ∧
      (s.heldSession a.number = none → s.accountChecks p d a = s.capacityChecks p d a) := by
  have hour : s.rateOpen a.classNo = true := by simp only [State.rateOpen, currentRate_open rate]
  constructor
  · intro x held
    simp only [State.accountChecks, hour, Bool.true_eq_false, if_false, funded funds, held]
  · intro none
    simp only [State.accountChecks, hour, Bool.true_eq_false, if_false, funded funds, none]

/-- With every slot in use a sign-on that passes the other checks waits, or with wait limit 0 is dropped (R97). -/
theorem capacityChecks_full (below : a.active < a.limit) (reservation : s.sessions.length + s.bills.length < 128)
    (full : s.link.limits.hostSlots ≤ s.sessions.length) :
    s.capacityChecks p d a =
      if 0 < s.link.limits.wait then s.enterQueue p d a.number else (s.queueMessage p slotPleaseWait).farewell p := by
  have room : ¬ Config.maxReservations ≤ s.reservations := Nat.not_le_of_lt reservation
  have slots : ¬ s.slotsInUse < s.limits.hostSlots := Nat.not_lt_of_le full
  simp only [State.capacityChecks, Nat.not_le_of_lt below, room, slots, if_false]
  rfl

theorem heldSession_none (none_held : ∀ y ∈ s.sessions, y.account = a.number → y.state ≠ .held) :
    s.heldSession a.number = none := by
  have empty : s.sessions.filter (fun x => x.account == a.number && x.state == .held) = [] := by
    simpa [List.filter_eq_nil_iff] using none_held
  simp only [State.heldSession, empty]

/-- The lines with line `p` written anew on the state in which the record was judged are those with it written on `s`. -/
theorem set_cleared (n : Nat) (l : Line) : (cleared s p n).lines.set p l = s.lines.set p l := Vector.set_set _ _

theorem line_cleared (n : Nat) : (cleared s p n).line p = returned (s.line p) := s.line_setLine_same p _

/-- The state in which the record was judged, with line `p` holding session `m` again, against the state before. -/
theorem resumed_cleared (n m : Nat) (out : List OutChar) (xs : List Session) (k : Link) :
    resumed (cleared s p n) p m out xs k =
      { s with
        lines := s.lines.set p { { s.line p with space := .none, partialRecord := {} } with
          output := ((resumed (cleared s p n) p m out xs k).line p).output, holder := .session m, retryCount := 0 },
        accounts := (resumed (cleared s p n) p m out xs k).accounts, sessions := xs, link := k } := by
  have lines : (cleared s p n).lines.set p { (cleared s p n).line p with output := out, holder := .session m, retryCount := 0 } =
      s.lines.set p { { s.line p with space := .none, partialRecord := {} } with
        output := out, holder := .session m, retryCount := 0 } := by
    rw [line_cleared]
    exact set_cleared n _
  rw [line_resumed]
  exact congrArg (fun v : Vector Line 32 => ({ cleared s p n with lines := v, sessions := xs, link := k } : State)) lines

/-- A line in ENTRY enters the wait queue with its sign-on limit paused (R103). -/
theorem enterQueue_eq (s : State) (p : Port) (d : Dialogue) (n : Nat) :
    s.enterQueue p d n =
      { s with
        lines := s.lines.set p { s.line p with
          output := told s slotPleaseWait (s.line p).output,
          holder := .dialogue ⟨.waiting, d.attempts, d.limit.pause, some n, some (s.link.limits.wait * 60)⟩ },
        waitQueue := s.waitQueue ++ [p] } := by
  have still (l : Line) (q : List Port) : State.line { s.setLine p l with waitQueue := q } p = l := s.line_setLine_same p l
  unfold State.enterQueue
  simp only [queueMessage_told, State.mapLine, still]
  exact congrArg (fun v => ({ s with lines := v, waitQueue := s.waitQueue ++ [p] } : State)) (Vector.set_set _ _)

theorem line_set (l : Line) (q : List Port) (xs : List Account) :
    State.line { s with lines := s.lines.set p l, waitQueue := q, accounts := xs } p = l := s.line_setLine_same p l

end

/-- Settles O27: the sign-on is judged with its failures cleared; it is given the soonest HELD session back, or finds no slot. -/
theorem signOnReattachesOrWaits : Obligations.SignOnReattachesOrWaits := by
  intro s p d bit n cu pw a line q typed accepted up found right isOpen rate funds hline hq
  obtain rfl : a.number = n := by simpa using List.find?_some found
  subst hline hq
  obtain ⟨text, marks, parse, run⟩ := exec_return typed accepted
  rw [judgeRecord_open (s := entered s p) parse up found isOpen, if_pos right] at run
  have checks := accountChecks_funded (s := cleared s p a.number) (p := p) (d := d) rate funds
  have record : (cleared s p a.number).findAccount a.number = some { a with failures := 0 } :=
    (entered s p).findAccount_mapAccount _ _ a found rfl
  have others : ∀ k, k ≠ a.number → (cleared s p a.number).findAccount k = s.findAccount k := fun k other =>
    (entered s p).findAccount_mapAccount_ne _ k _ (fun _ => rfl) other
  refine ⟨fun x h warns r soonest hr hwarns => ?_,
    fun none_held below reservation full => ⟨fun k waits running => ?_, fun nowait => ?_⟩⟩
  · subst hr
    obtain ⟨session, account, -⟩ := id soonest
    have given := reattach_resumed (s := cleared s p a.number) (p := p) session (a := { a with failures := 0 })
      (by rw [account]; exact record)
    replace run := run.trans (congrArg _ ((checks.1 x (heldSession_soonest (s := cleared s p a.number) soonest)).trans given))
    have back := find_changeFirst_same (f := givenBack p) session (by simp [givenBack])
    rw [line_cleared, account] at run
    have least : ∀ k, k ≠ x.number → (changeFirst (fun y => y.number == x.number) (givenBack p) s.sessions).find?
        (fun y => y.number == k) = s.findSession k := fun k other => find_changed_ne (f := givenBack p) (fun _ => rfl) other _
    by_cases low : x.snapshot.record.lowFunds ≠ 0 ∧ a.balance ≤ x.snapshot.record.lowFunds ∧ x.fundsWarned = false
    · obtain rfl : warns = true := by simpa [low] using hwarns
      refine ⟨_, run.trans (congrArg _ (if_pos low)), resumed_cleared .., ?_, ?_, ?_, record, others, ?_⟩
      · rw [Bool.or_true]
        exact find_changeFirst_same back (by simp [givenBack])
      · exact fun k other => (find_changed_ne (f := fun z => { z with fundsWarned := true }) (fun _ => rfl) other _).trans
          (least k other)
      · exact (length_changeFirst ..).trans (length_changeFirst ..)
      · rw [line_resumed]
        exact (told_codes ..).trans (congrArg (joined · _) (told_codes ..))
    · obtain rfl : warns = false := by simpa [low] using hwarns
      refine ⟨_, run.trans (congrArg _ (if_neg low)), resumed_cleared .., ?_, least, length_changeFirst .., record, others, ?_⟩
      · rw [Bool.or_false]
        exact back
      · rw [line_resumed]
        exact told_codes ..
  · have stay := capacityChecks_full (s := cleared s p a.number) (p := p) (d := d) (a := a) below reservation full
    refine ⟨_, run.trans (congrArg _ ((checks.2 (heldSession_none (s := cleared s p a.number) none_held)).trans
      (stay.trans ((if_pos waits).trans (enterQueue_eq ..))))), ?_, ?_, record, others⟩
    · rw [line_set, line_cleared, set_cleared, running]
      rfl
    · rw [line_set, line_cleared]
      exact told_codes ..
  · have stay := capacityChecks_full (s := cleared s p a.number) (p := p) (d := d) (a := a) below reservation full
    have at_line := line_cleared (s := s) (p := p) a.number
    have leaves := farewell_told (s := cleared s p a.number) (p := p) (d := d) (by rw [at_line]; exact typed.1)
      (by rw [at_line]; exact typed.2.1) slotPleaseWait
    refine ⟨_, run.trans (congrArg _ ((checks.2 (heldSession_none (s := cleared s p a.number) none_held)).trans
      (stay.trans ((if_neg (by exact Nat.not_lt_of_le (Nat.le_of_eq nowait))).trans leaves)))), ?_, ?_, record, others⟩
    · rw [line_set, turnedAway, line_cleared, set_cleared]
      rfl
    · rw [line_set, turnedAway, line_cleared]
      exact told_codes ..

end Sys2Proof.Machine.Places
end

-- The host slot's arbiter: what an admission and a refused head make of the state, and SET LIMITS.
section
namespace Sys2Proof.Machine.Places

open Accounts (Rebanded opened newSession admitLine_eq lowFundsTest_opened findAccount_opened findAccount_opened_ne
  freeNumber_unused admissionRate_open currentRate_open changeFirst_append_singleton reported_of_queue)

/-! ## A free session number (R113) -/

theorem succNumber_range (v : Nat) : 1 ≤ succNumber v ∧ succNumber v ≤ 65535 := by
  unfold succNumber
  split <;> omega

/-- The numbers follow one another round the 65,535 that there are. -/
theorem succNumber_iterate {v : Nat} (low : 1 ≤ v) (high : v ≤ 65535) (i : Nat) :
    succNumber^[i] v = (v - 1 + i) % 65535 + 1 := by
  induction i with
  | zero =>
    change v = _
    omega
  | succ i ih =>
    rw [Function.iterate_succ_apply', ih]
    unfold succNumber
    split <;> omega

/-- A search that ends at a number in use has found each number it tried in use. -/
theorem freeNumber_tried {used : List Nat} {k v : Nat} (h : freeNumber used k v ∈ used) :
    ∀ i ≤ k, succNumber^[i] v ∈ used := by
  induction k generalizing v with
  | zero =>
    intro i hi
    obtain rfl : i = 0 := by omega
    exact h
  | succ k ih =>
    unfold freeNumber at h
    split at h
    · next first =>
      intro i hi
      cases i with
      | zero => exact first
      | succ i => exact ih h i (by omega)
    · next free => exact absurd h free

/-- 33 tries are enough for 32 records: the number of a new session is free. -/
theorem freeNumber_free {used : List Nat} (few : used.length ≤ 32) (v : Nat) : freeNumber used 33 v ∉ used := by
  intro h
  obtain ⟨low, high⟩ := succNumber_range v
  have tried : (List.range 33).map (fun i => (succNumber v - 1 + i) % 65535 + 1) ⊆ used := by
    intro n hn
    obtain ⟨i, hi, rfl⟩ := List.mem_map.mp hn
    have next := freeNumber_tried h (i + 1) (by have := List.mem_range.mp hi; omega)
    rwa [Function.iterate_succ_apply, succNumber_iterate low high] at next
  have distinct : ((List.range 33).map (fun i => (succNumber v - 1 + i) % 65535 + 1)).Nodup := by
    refine List.Nodup.map_on (fun i hi j hj same => ?_) List.nodup_range
    rw [List.mem_range] at hi hj
    omega
  have many := (List.subperm_of_subset distinct tried).length_le
  rw [List.length_map, List.length_range] at many
  omega

/-! ## Admission (R98, R113, R144, R149) -/

section
variable {s : State} {p : Port} {a : Account}

/-- The state with session `y` of account `a` on line `p`, whose output queue is `out`, the band at `band`, on link `l`. -/
def seatedOn (s : State) (p : Port) (a : Account) (out : List OutChar) (y : Session) (band : Nat) (l : Link) : State :=
  { s with
    lines := s.lines.set p { s.line p with holder := .session y.number, retryCount := 0, output := out },
    accounts := (s.mapAccount a.number (fun x => { x with active := x.active + 1 })).accounts,
    waitQueue := without p s.waitQueue, sessions := s.sessions ++ [y],
    nextNumber := if 65535 ≤ y.number then 1 else y.number + 1, tariff := { s.tariff with band := band }, link := l }

/-- The record of a new session with number `n`, the load band being `band`. -/
def freshSession (s : State) (p : Port) (a : Account) (n band : Nat) (warns : Bool) : Session :=
  { number := n, account := a.number, snapshot := ⟨a.classNo, s.classes[a.classNo]⟩, state := .open, boundLine := some p,
    firstLine := p, lastLine := p, start := s.tariff.clock, fundsWarned := warns,
    meter := { rate := s.admissionRate a.classNo,
               multiplier := if (s.classes[a.classNo]).surcharge then s.tariff.steps.multiplier band else 16 } }

/-- The link behind an admission: SESSION OPENED, and FUNDS LOW where the session is warned (R98, R149). -/
def openReports (k : Link) (p : Port) (a : Account) (n : Nat) (warns : Bool) : Link :=
  if warns then (k.reported (.sessionOpened n p a.number a.classNo)).reported (.fundsLow n a.number (some p) a.balance)
  else k.reported (.sessionOpened n p a.number a.classNo)

/-- The balance of a new session's account is within the low-funds threshold of its class (R149). -/
abbrev warnsOf (s : State) (a : Account) : Bool :=
  decide ((s.classes[a.classNo]).lowFunds ≠ 0 ∧ a.balance ≤ (s.classes[a.classNo]).lowFunds)

theorem admitLine_unused (unused : ∀ z ∈ s.sessions, z.number ≠ s.nextNumber) (found : s.findAccount a.number = some a) :
    ∃ band k, Rebanded s band k ∧ s.admitLine p a =
      seatedOn s p a (if warnsOf s a then told s slotFundsLow (s.line p).output else (s.line p).output)
        (freshSession s p a s.nextNumber band (warnsOf s a)) band (openReports k p a s.nextNumber (warnsOf s a)) := by
  obtain ⟨band, k, moved, run⟩ := admitLine_eq s p a unused
  refine ⟨band, k, moved, run.trans ((lowFundsTest_opened unused found).trans ?_)⟩
  by_cases low : (s.classes[a.classNo]).lowFunds ≠ 0 ∧ a.balance ≤ (s.classes[a.classNo]).lowFunds
  · have line : (opened s p a band k).line p = { s.line p with retryCount := 0, holder := .session s.nextNumber } :=
      s.line_setLine_same p _
    have others : ∀ y ∈ s.sessions, (y.number == s.nextNumber) = false := by simpa using unused
    rw [if_pos low, show warnsOf s a = true from decide_eq_true low, queueMessage_told, line, State.queueReport_eq]
    have lines : (opened s p a band k).lines.set p { s.line p with
        retryCount := 0, holder := .session s.nextNumber, output := told s slotFundsLow (s.line p).output } =
          s.lines.set p { s.line p with
            holder := .session s.nextNumber, retryCount := 0, output := told s slotFundsLow (s.line p).output } :=
      Vector.set_set _ _
    have sessions := changeFirst_append_singleton (fun y : Session => { y with fundsWarned := true }) (y := freshSession s p a
      s.nextNumber band false) others (beq_self_eq_true _)
    exact congrArg₂ (fun v xs => ({ opened s p a band k with
      lines := v, sessions := xs, link := openReports k p a s.nextNumber true } : State)) lines sessions
  · rw [if_neg low, show warnsOf s a = false from decide_eq_false low]
    rfl

theorem line_seatedOn (out : List OutChar) (y : Session) (band : Nat) (l : Link) :
    (seatedOn s p a out y band l).line p = { s.line p with holder := .session y.number, retryCount := 0, output := out } :=
  s.line_setLine_same p _

theorem openReports_queue {k l : Link} (h : k = { l with reports := k.reports, lost := k.lost }) (p : Port) (a : Account)
    (n : Nat) (warns : Bool) : openReports k p a n warns =
      { l with reports := (openReports k p a n warns).reports, lost := (openReports k p a n warns).lost } := by
  unfold openReports
  split
  · exact reported_of_queue (reported_of_queue h _) _
  · exact reported_of_queue h _

/-- An admission that finds the band settled reports LOAD BAND where the band has risen, and nothing where it stays (R139). -/
theorem link_rebanded {band : Nat} {k : Link} (moved : Rebanded s band k) (settled : s.bandSettled) :
    k = if band = s.tariff.band then s.link
        else s.link.reported (.loadBand s.tariff.band band (s.sessions.length + 1) (s.tariff.steps.multiplier band)) := by
  split
  · next same => exact moved.stays same
  · next other =>
    have risen := moved.settled settled
    have one : band = s.tariff.band + 1 := by
      unfold LoadSteps.risen at risen
      split at risen
      · exact risen
      · exact absurd risen other
    rw [moved.rises one, one]

/-- An admission searches the table for its number only. -/
theorem admitLine_nextNumber (few : s.sessions.length ≤ 32) (p : Port) (a : Account) : s.admitLine p a =
    State.admitLine { s with nextNumber := freeNumber (s.sessions.map (·.number)) 33 s.nextNumber } p a := by
  have free := freeNumber_free (used := s.sessions.map (·.number)) (by rwa [List.length_map]) s.nextNumber
  generalize hn : freeNumber (s.sessions.map (·.number)) 33 s.nextNumber = n at free ⊢
  have found : freeNumber (s.sessions.map (·.number)) 33 n = n := freeNumber_unused free 32
  unfold State.admitLine
  rw [hn, found]
  rfl

/-- With at most 32 sessions in the table an admission opens a session with a number that is free (R98, R113). -/
theorem admitLine_seatedOn (few : s.sessions.length ≤ 32) (p : Port) (found : s.findAccount a.number = some a) :
    ∃ n band k, (∀ z ∈ s.sessions, z.number ≠ n) ∧ ((∀ z ∈ s.sessions, z.number ≠ s.nextNumber) → n = s.nextNumber) ∧
      Rebanded s band k ∧ s.admitLine p a =
        seatedOn s p a (if warnsOf s a then told s slotFundsLow (s.line p).output else (s.line p).output)
          (freshSession s p a n band (warnsOf s a)) band (openReports k p a n (warnsOf s a)) := by
  have free := freeNumber_free (used := s.sessions.map (·.number)) (by rwa [List.length_map]) s.nextNumber
  have first : (∀ z ∈ s.sessions, z.number ≠ s.nextNumber) →
      freeNumber (s.sessions.map (·.number)) 33 s.nextNumber = s.nextNumber :=
    fun unused => freeNumber_unused (by simpa using unused) 32
  rw [admitLine_nextNumber few]
  generalize freeNumber (s.sessions.map (·.number)) 33 s.nextNumber = n at free first ⊢
  have unused : ∀ z ∈ s.sessions, z.number ≠ n := by simpa using free
  obtain ⟨band, k, ⟨queue, stays, rises, settled⟩, run⟩ :=
    admitLine_unused (s := { s with nextNumber := n }) (p := p) unused found
  exact ⟨n, band, k, unused, first, ⟨queue, stays, rises, settled⟩, run⟩

/-- With at most 32 sessions in the table an admission is the one of R98. -/
theorem admits_admitLine (few : s.sessions.length ≤ 32) (p : Port) (found : s.findAccount a.number = some a)
    (rate : ∃ w cu, s.tariff.period = some w ∧ w.rates[a.classNo] = .open cu) : ∃ y, s.admits (s.admitLine p a) p a y := by
  obtain ⟨n, band, k, unused, first, moved, run⟩ := admitLine_seatedOn few p found
  obtain ⟨w, cu, period, isOpen⟩ := rate
  have rated : s.admissionRate a.classNo = cu := admissionRate_open ⟨w, period, isOpen⟩
  subst rated
  rw [run]
  refine ⟨freshSession s p a n band (warnsOf s a), w, _, _, _, period, isOpen, rfl, rfl, rfl, unused, first, ?_, ?_, ?_, ?_,
    fun settled => ⟨moved.settled settled, fun l reported => ?_⟩⟩
  · rw [line_seatedOn]
    exact congrArg (seatedOn s p a _ _ band) (openReports_queue moved.queue p a n _)
  · rw [line_seatedOn]
    change List.map _ (if warnsOf s a then told s slotFundsLow (s.line p).output else (s.line p).output) = _
    split
    · exact told_codes ..
    · rfl
  · exact s.findAccount_mapAccount _ _ a found rfl
  · exact fun m other => s.findAccount_mapAccount_ne _ m _ (fun _ => rfl) other
  · rw [reported]
    exact congrArg (openReports · p a n (warnsOf s a)) (link_rebanded moved settled)

/-! ## The head of the wait queue (R105, R106) -/

variable {n : Nat} {m : Slot} {d : Dialogue}

/-- The account record of a line that waits is the one of its dialogue's account. -/
theorem waiting_account (talks : (s.line p).holder = .dialogue d) (waits : d.account = some n) :
    ((s.line p).dialogue.bind (·.account)).bind s.findAccount = s.findAccount n := by
  simp only [Line.dialogue, talks, Option.bind_some, waits]

theorem rateOpen_of_open {c : Fin 4} (rate : ∃ w cu, s.tariff.period = some w ∧ w.rates[c] = .open cu) :
    s.rateOpen c = true := by
  obtain ⟨w, cu, period, isOpen⟩ := rate
  have rate : s.currentRate c = some (.open cu) := by
    rw [State.currentRate, period]
    exact congrArg some isOpen
  simp only [State.rateOpen, rate]

theorem rateOpen_of_closed {c : Fin 4} {w : Period} (period : s.tariff.period = some w) (closed : w.rates[c] = .closed) :
    s.rateOpen c = false := by
  have rate : s.currentRate c = some .closed := by
    rw [State.currentRate, period]
    exact congrArg some closed
  simp only [State.rateOpen, rate]

theorem headRefusal_passes (passes : s.headPasses n a) : s.headRefusal a = none := by
  obtain ⟨-, isOpen, rate, funds, below, reservation⟩ := passes
  have hour : ¬ s.rateOpen a.classNo = false := by simp [rateOpen_of_open rate]
  exact (if_neg (not_not_intro isOpen)).trans ((if_neg hour).trans ((if_neg (funded funds)).trans
    ((if_neg (Nat.not_le_of_lt below)).trans (if_neg (Nat.not_le_of_lt reservation)))))

/-- A head whose account passes the checks is admitted (R106). -/
theorem judgeHead_passes (up : s.link.host = .up) (waits : s.waitsFor p n) (passes : s.headPasses n a) :
    s.judgeHead p = s.admitLine p a := by
  obtain ⟨-, d, talks, -, account⟩ := waits
  simp only [State.judgeHead, up, waiting_account talks account, passes.1, headRefusal_passes passes]

theorem headRefusal_fails (fails : s.headFails n m) (found : s.findAccount n = some a) : s.headRefusal a = some m := by
  rcases fails with ⟨-, none⟩ | ⟨a', some, fails⟩
  · cases found.symm.trans none
  obtain rfl : a = a' := Option.some.inj (found.symm.trans some)
  rcases fails with ⟨rfl, locked⟩ | ⟨isOpen, fails⟩
  · exact if_pos locked
  refine (if_neg (not_not_intro isOpen)).trans ?_
  rcases fails with ⟨rfl, w, period, closed⟩ | ⟨rate, fails⟩
  · exact if_pos (rateOpen_of_closed period closed)
  refine (if_neg (by simp [rateOpen_of_open rate])).trans ?_
  rcases fails with ⟨rfl, broke⟩ | ⟨funds, fails⟩
  · exact if_pos broke
  refine (if_neg (funded funds)).trans ?_
  rcases fails with ⟨rfl, many⟩ | ⟨rfl, below, full⟩
  · exact if_pos many
  · exact (if_neg (Nat.not_le_of_lt below)).trans (if_pos full)

/-- A head whose account fails a check is dropped with the check's message (R106). -/
theorem judgeHead_fails (up : s.link.host = .up) (waits : s.waitsFor p n) (talks : (s.line p).holder = .dialogue d)
    (fails : s.headFails n m) :
    s.judgeHead p = { s with lines := s.lines.set p (turnedAway s p d m), waitQueue := without p s.waitQueue } := by
  obtain ⟨connected, d', talks', -, account⟩ := waits
  obtain rfl : d' = d := Holder.dialogue.inj (talks'.symm.trans talks)
  rw [← farewell_told connected talks]
  cases found : s.findAccount n with
  | none =>
    rcases fails with ⟨rfl, -⟩ | ⟨a, some, -⟩
    · simp only [State.judgeHead, up, waiting_account talks account, found]
    · cases found.symm.trans some
  | some a => simp only [State.judgeHead, up, waiting_account talks account, found, headRefusal_fails fails found]

end

/-! ## SET LIMITS (R105, R173, R175) -/

/-- The state in which a SET LIMITS has been heard and its limits are stored. -/
def limited (x : Limits) (s : State) : State :=
  { s with link := { s.link with assembler := .hunting, timeoutRunning := x.linkTimeout != 0, limits := x } }

/-- What SET LIMITS makes of a state but for its reply: a raise above slots in use evaluates the wait queue (R105). -/
def relimited (x : Limits) (s : State) : State :=
  if s.link.limits.hostSlots < x.hostSlots ∧ s.sessions.length < x.hostSlots then (limited x s).evaluate else limited x s

section
variable {s : State} {p : Port} {a : Account} {x : Limits}

theorem storeLimits_heard (s : State) (x : Limits) : s.heard.storeLimits x = relimited x s := rfl

/-- The clamped limits are those of R173. -/
theorem clamp_eq (x : Limits) : x.clamp =
    ⟨max 5 (min 60 x.answerWindow), max 10 (min 60 x.speedWindow), max 30 (min 300 x.signOn), max 1 (min 5 x.attempts),
      min 30 x.wait, max 1 (min 32 x.hostSlots), min 60 x.linkTimeout, min 60 x.hostDown, max 5 (min 60 x.noiseWindow),
      min 4 x.deglitch⟩ := by
  simp [Limits.clamp, InOut.clampTo_eq]

/-- A ready link carries SET LIMITS out at once. -/
theorem exec_setLimits (ready : s.ready) (a b c1 c0 d e f g h i j : Byte) {y : Limits}
    (sent : y = ⟨a.toNat, b.toNat, beNat [c1, c0], d.toNat, e.toNat, f.toNat, g.toNat, h.toNat, i.toNat, j.toNat⟩) :
    exec (.setLimits [a, b, c1, c0, d, e, f, g, h, i, j]) s =
      .next ((relimited y.clamp s).placeReply 0x04#8 (doneOr (y.clamp ≠ y)) y.clamp.bytes) := by
  subst sent
  exact congrArg _ (s.takeOrder_ready _ _ _ ready)

/-! ### Storing limits goes with every part of an admission -/

theorem limited_queueReport (s : State) (r : Report) : (limited x s).queueReport r = limited x (s.queueReport r) := by
  rw [State.queueReport_eq, State.queueReport_eq]
  have link : (limited x s).link.reported r = { s.link.reported r with
      assembler := .hunting, timeoutRunning := x.linkTimeout != 0, limits := x } := by
    by_cases room : s.link.reports.length < 64 <;> simp [Link.reported, limited, room]
  exact congrArg (fun l => ({ s with link := l } : State)) link

theorem limited_setBand (s : State) (b : Nat) (q : Bool) : (limited x s).setBand b q = limited x (s.setBand b q) := by
  cases q with
  | true => rfl
  | false => exact limited_queueReport { s with tariff := { s.tariff with band := b } } _

theorem limited_raiseBand (k : Nat) (s : State) (q : Bool) :
    State.raiseBand k (limited x s) q = limited x (State.raiseBand k s q) := by
  induction k generalizing s with
  | zero => rfl
  | succ k ih =>
    refine Eq.trans ?_ (apply_ite (limited x) _ _ _).symm
    rw [← ih, ← limited_setBand]
    rfl

theorem limited_lowerBand (k : Nat) (s : State) (q : Bool) :
    State.lowerBand k (limited x s) q = limited x (State.lowerBand k s q) := by
  induction k generalizing s with
  | zero => rfl
  | succ k ih =>
    refine Eq.trans ?_ (apply_ite (limited x) _ _ _).symm
    rw [← ih, ← limited_setBand]
    rfl

theorem limited_reband (s : State) (q : Bool) : (limited x s).reband q = limited x (s.reband q) := by
  rw [State.reband, limited_raiseBand, limited_lowerBand]
  rfl

theorem limited_queueMessage (s : State) (p : Port) (m : Slot) :
    (limited x s).queueMessage p m = limited x (s.queueMessage p m) := by
  rw [queueMessage_told, queueMessage_told]
  rfl

theorem limited_queueMessageTo (s : State) (o : Option Port) (m : Slot) :
    (limited x s).queueMessageTo o m = limited x (s.queueMessageTo o m) := by
  cases o with
  | none => rfl
  | some p => exact limited_queueMessage s p m

theorem limited_lowFundsTest (s : State) (n : Nat) : (limited x s).lowFundsTest n = limited x (s.lowFundsTest n) := by
  unfold State.lowFundsTest
  rw [show (limited x s).findSession n = s.findSession n from rfl]
  cases s.findSession n with
  | none => rfl
  | some y =>
    refine Eq.trans ?_ (apply_ite (limited x) _ _ _).symm
    simp only [limited_queueMessageTo, limited_queueReport]
    rfl

/-- The session of an admission in the table with its number `n`, and counted on its account; the band is not yet evaluated. -/
def numbered (s : State) (p : Port) (a : Account) (n : Nat) : State :=
  State.mapAccount { s with
    sessions := s.sessions ++ [{
      number := n, account := a.number, snapshot := ⟨a.classNo, s.classes[a.classNo]⟩, boundLine := some p, firstLine := p,
      lastLine := p, start := s.tariff.clock, meter := { rate := s.admissionRate a.classNo, multiplier := 16 } }],
    nextNumber := succNumber n } a.number (fun b => { b with active := b.active + 1 })

/-- An admission, in its stages (R98). -/
theorem admitLine_stages (s : State) (p : Port) (a : Account) {n : Nat}
    (hn : n = freeNumber (s.sessions.map (·.number)) 33 s.nextNumber) : s.admitLine p a =
      ((Accounts.lined ((numbered s p a n).reband false) p n
        (((numbered s p a n).reband false).currentMultiplier s.classes[a.classNo])).queueReport
          (.sessionOpened n p a.number a.classNo)).lowFundsTest n := by
  subst hn
  rfl

theorem limited_lined (s : State) (p : Port) (n m : Nat) :
    Accounts.lined (limited x s) p n m = limited x (Accounts.lined s p n m) := rfl

theorem limited_currentMultiplier (s : State) (r : ClassRecord) : (limited x s).currentMultiplier r = s.currentMultiplier r := rfl

/-- An admission is the same under any limits. -/
theorem limited_admitLine (s : State) (p : Port) (a : Account) : (limited x s).admitLine p a = limited x (s.admitLine p a) := by
  obtain ⟨n, hn⟩ : ∃ n, n = freeNumber (s.sessions.map (·.number)) 33 s.nextNumber := ⟨_, rfl⟩
  have seated : numbered (limited x s) p a n = limited x (numbered s p a n) := rfl
  rw [admitLine_stages s p a hn, admitLine_stages (limited x s) p a hn, seated, limited_reband, limited_lined,
    limited_currentMultiplier, limited_queueReport, limited_lowFundsTest]
  rfl

/-! ### The evaluation that a raise makes (R105) -/

/-- A raise evaluates the wait queue, with or without a slot free. -/
theorem relimited_of_raised (raised : s.link.limits.hostSlots < x.hostSlots) : relimited x s = (limited x s).evaluate := by
  unfold relimited
  split
  · rfl
  · next no_slot => exact (State.evaluate_full (limited x s) (Nat.le_of_not_lt fun free => no_slot (And.intro raised free))).symm

theorem relimited_empty (empty : s.waitQueue = []) : relimited x s = limited x s := by
  unfold relimited
  rw [State.evaluate_nil (limited x s) empty, ite_self]

theorem without_of_notMem {rest : List Port} (h : p ∉ rest) : without p rest = rest :=
  List.filter_eq_self.mpr fun _ hq => decide_eq_true fun same => h (same ▸ hq)

section
variable {n : Nat} {d : Dialogue} {rest : List Port} (up : s.link.host = .up) (queue : s.waitQueue = p :: rest)
  (once : p ∉ rest)
  (waits : s.waitsFor p n) (raised : s.link.limits.hostSlots < x.hostSlots) (free : s.sessions.length < x.hostSlots)
include up queue once waits raised free

/-- A head that fails a check is dropped, and the order goes on as on the queue of the rest. -/
theorem relimited_fails (talks : (s.line p).holder = .dialogue d) {m : Slot} (fails : s.headFails n m) :
    relimited x s = relimited x { s with lines := s.lines.set p (turnedAway s p d m), waitQueue := rest } := by
  have judged : State.judgeHead { limited x s with waitQueue := rest } p =
      limited x { s with lines := s.lines.set p (turnedAway s p d m), waitQueue := without p rest } :=
    judgeHead_fails (s := { limited x s with waitQueue := rest }) up waits talks fails
  rw [relimited_of_raised raised, State.evaluate_cons (limited x s) p rest queue free, judged, without_of_notMem once]
  exact (relimited_of_raised (s := { s with lines := s.lines.set p (turnedAway s p d m), waitQueue := rest }) raised).symm

theorem relimited_passes (passes : s.headPasses n a) :
    relimited x s = relimited x (State.admitLine { s with waitQueue := rest } p a) := by
  have judged : State.judgeHead { limited x s with waitQueue := rest } p =
      limited x (State.admitLine { s with waitQueue := rest } p a) :=
    (judgeHead_passes (s := { limited x s with waitQueue := rest }) up waits passes).trans
      (limited_admitLine { s with waitQueue := rest } p a)
  have queue' : (State.admitLine { s with waitQueue := rest } p a).waitQueue = rest :=
    (admitLine_queue ..).trans (without_of_notMem once)
  have limits : (State.admitLine { s with waitQueue := rest } p a).link.limits = s.link.limits := by simp
  rw [relimited_of_raised raised, State.evaluate_cons (limited x s) p rest queue free, judged,
    relimited_of_raised (by rw [limits]; exact raised)]
  exact congrArg (fun q => State.evaluateQueue q.length _) queue'.symm

end

/-- A line that is not on the queue behind it leaves the same queue, whether it is taken from the head first or not. -/
theorem admits_of_rest {rest : List Port} (queue : s.waitQueue = p :: rest) {t : State} {y : Session}
    (h : State.admits { s with waitQueue := rest } t p a y) : s.admits t p a y := by
  have same : without p s.waitQueue = without p rest := by
    rw [queue]
    exact List.filter_cons_of_neg (by simp)
  unfold State.admits at h ⊢
  rw [same]
  exact h

/-- A head that passes is admitted, and the order goes on as on the queue of the rest with that session in the table. -/
theorem relimited_admits {n : Nat} {rest : List Port} (ready : s.ready) (queue : s.waitQueue = p :: rest) (once : p ∉ rest)
    (waits : s.waitsFor p n) (raised : s.link.limits.hostSlots < x.hostSlots) (free : s.sessions.length < x.hostSlots)
    (few : s.sessions.length ≤ 32) (passes : s.headPasses n a) :
    ∃ t y, s.admits t p a y ∧ t.waitQueue = rest ∧ t.ready ∧ relimited x s = relimited x t := by
  obtain ⟨found, -, rate, -⟩ := id passes
  obtain rfl : a.number = n := by simpa using List.find?_some found
  obtain ⟨y, admits⟩ := admits_admitLine (s := { s with waitQueue := rest }) few p found rate
  exact ⟨_, y, admits_of_rest queue admits, (admitLine_queue ..).trans (without_of_notMem once),
    by simpa [State.ready] using ready, relimited_passes ready.2.2.2 queue once waits raised free passes⟩

end

section
variable {s t : State} {p : Port} {a : Account} {y : Session}

/-- What the claims read of an admission (R98). -/
structure Admitted (s t : State) (p : Port) (a : Account) (y : Session) : Prop where
  sessions : t.sessions = s.sessions ++ [y]
  account : y.account = a.number
  isOpen : y.state = .open
  bound : y.boundLine = some p
  firstLine : y.firstLine = p
  lastLine : y.lastLine = p
  start : y.start = s.tariff.clock
  snapshot : y.snapshot = ⟨a.classNo, s.classes[a.classNo]⟩
  charged : y.meter.charged = 0
  acc : y.meter.acc = 0
  unused : ∀ z ∈ s.sessions, z.number ≠ y.number
  queue : t.waitQueue = without p s.waitQueue
  state : (t.line p).state = (s.line p).state
  holder : (t.line p).holder = .session y.number
  retryCount : (t.line p).retryCount = 0
  record : t.findAccount a.number = some { a with active := a.active + 1 }
  otherLines : ∀ q, q ≠ p → t.line q = s.line q
  band : s.bandSettled → t.tariff.band = s.tariff.steps.risen s.tariff.band (s.sessions.length + 1)

theorem admitted_of_admits (h : s.admits t p a y) : Admitted s t p a y := by
  obtain ⟨w, cu, r, warns, -, -, rfl, -, fresh, unused, -, whole, -, record, -, settled⟩ := h
  have line : t.line p = { s.line p with holder := .session y.number, retryCount := 0, output := (t.line p).output } :=
    (congrArg (State.line · p) whole).trans (s.line_setLine_same p _)
  exact {
    sessions := congrArg State.sessions whole
    account := congrArg Session.account fresh
    isOpen := congrArg Session.state fresh
    bound := congrArg Session.boundLine fresh
    firstLine := congrArg Session.firstLine fresh
    lastLine := congrArg Session.lastLine fresh
    start := congrArg Session.start fresh
    snapshot := congrArg Session.snapshot fresh
    charged := congrArg (·.meter.charged) fresh
    acc := congrArg (·.meter.acc) fresh
    unused := unused
    queue := congrArg State.waitQueue whole
    state := (congrArg Line.state line :)
    holder := congrArg Line.holder line
    retryCount := congrArg Line.retryCount line
    record := record
    otherLines := fun q other => (congrArg (State.line · q) whole).trans (s.line_setLine_ne p q _ other)
    band := fun h => (settled h).1 }

end

theorem doneOr_eq (x y : Limits) : doneOr (x ≠ y) = if x = y then .done else .clamped := by
  by_cases same : x = y <;> simp [doneOr, same]

/-- Fewer sessions than the host slot limit are few enough for the search of a number. -/
theorem length_le_of_lt_slots {k b : Nat} (h : k < max 1 (min 32 b)) : k ≤ 32 := by omega

theorem line_dropped (x : Limits) (s : State) (p : Port) (l : Line) (q : List Port) (k : Byte) (c : ReplyCode) (bs : List Byte) :
    ((limited x { s with lines := s.lines.set p l, waitQueue := q }).placeReply k c bs).line p = l := s.line_setLine_same p l

theorem link_limited (x : Limits) (s : State) (k : Byte) (c : ReplyCode) (bs : List Byte) :
    ((limited x s).placeReply k c bs).link.limits = x ∧ ((limited x s).placeReply k c bs).link.reports = s.link.reports :=
  ⟨rfl, rfl⟩

/-- Settles O34: the limits are stored, and a raise judges the head of the wait queue and goes on with the rest. -/
theorem setLimitsAreClamped : Obligations.SetLimitsAreClamped := by
  refine ⟨fun s a b c1 c0 d e f g h i j x ready still hx => ?_,
    fun s a b c1 c0 d e f g h i j H p n talk ready queue waits talks hH raised free => ?_,
    fun s a b c1 c0 d e f g h i j c H p rest n talk ready queue nodup waits talks hc hH raised free => ?_⟩
  · have clamped := (clamp_eq ⟨a.toNat, b.toNat, beNat [c1, c0], d.toNat, e.toNat, f.toNat, g.toNat, h.toNat, i.toNat,
      j.toNat⟩).trans hx.symm
    have stays : relimited x s = limited x s := by
      rcases still with empty | no_raise | full
      · exact relimited_empty empty
      · exact if_neg fun raise => absurd raise.1 (Nat.not_lt_of_le no_raise)
      · exact if_neg fun raise => absurd raise.2 (Nat.not_lt_of_le full)
    rw [exec_setLimits ready a b c1 c0 d e f g h i j rfl, clamped, stays, doneOr_eq]
    unfold Limits.bytes
    rw [Accounts.beBytes_two]
    rfl
  · obtain ⟨y, hy⟩ : ∃ y : Limits, y = ⟨a.toNat, b.toNat, beNat [c1, c0], d.toNat, e.toNat, f.toNat, g.toNat, h.toNat,
      i.toNat, j.toNat⟩ := ⟨_, rfl⟩
    have run := exec_setLimits ready a b c1 c0 d e f g h i j hy
    obtain rfl : y.clamp.hostSlots = H := by rw [clamp_eq, hy, hH]
    have up : s.link.host = .up := ready.2.2.2
    refine ⟨fun m fails => ?_, fun acct passes => ?_⟩
    · rw [relimited_fails up queue List.not_mem_nil waits raised free talks fails, relimited_empty rfl] at run
      obtain ⟨limits, reports⟩ := link_limited ..
      refine ⟨_, run, ?_, congrArg Limits.hostSlots limits, reports, ?_⟩
      · rw [line_dropped]
        rfl
      · rw [line_dropped]
        exact ⟨rfl, rfl, rfl, told_codes ..⟩
    · obtain ⟨t, z, admits, rested, -, goes⟩ :=
        relimited_admits ready queue List.not_mem_nil waits raised free (length_le_of_lt_slots (b := f.toNat) (hH ▸ free))
          passes
      have admitted := admitted_of_admits admits
      obtain rfl : acct.number = n := by simpa using List.find?_some passes.1
      rw [goes, relimited_empty rested] at run
      exact ⟨_, z, run, admitted.sessions, admitted.account, admitted.isOpen, admitted.bound, admitted.start,
        admitted.snapshot, admitted.charged, admitted.unused, rested, rfl, admitted.state.trans waits.1,
        admitted.holder, admitted.retryCount, admitted.record, admitted.otherLines⟩
  · obtain ⟨y, hy⟩ : ∃ y : Limits, y = ⟨a.toNat, b.toNat, beNat [c1, c0], d.toNat, e.toNat, f.toNat, g.toNat, h.toNat,
      i.toNat, j.toNat⟩ := ⟨_, rfl⟩
    have run {u : State} (ready : u.ready) := exec_setLimits ready a b c1 c0 d e f g h i j hy
    obtain rfl : y.clamp.hostSlots = H := by rw [clamp_eq, hy, hH]
    subst hc
    have up : s.link.host = .up := ready.2.2.2
    have once : p ∉ rest := (List.nodup_cons.mp (queue ▸ nodup)).1
    refine ⟨fun m fails => ⟨turnedAway s p talk m, ⟨rfl, told_codes ..⟩, ?_⟩, fun acct passes => ?_⟩
    · rw [run ready, run (u := { s with lines := s.lines.set p (turnedAway s p talk m), waitQueue := rest }) ready,
        relimited_fails up queue once waits raised free talks fails]
    · obtain ⟨t, z, admits, rested, still, goes⟩ :=
        relimited_admits ready queue once waits raised free (length_le_of_lt_slots (b := f.toNat) (hH ▸ free)) passes
      have sessions := (admitted_of_admits admits).sessions
      refine ⟨t, z, admits, rested, by rw [run ready, run still, goes], fun last => ?_⟩
      have full : relimited y.clamp t = limited y.clamp t := if_neg fun raise => by
        have more := raise.2
        rw [sessions, List.length_append, List.length_singleton] at more
        exact absurd last (Nat.ne_of_lt more)
      have done := run ready
      rw [goes, full] at done
      exact ⟨_, done, rested, sessions, rfl, rfl, rfl, rfl⟩

end Sys2Proof.Machine.Places
end

-- END SESSION, where the line of the session that closes waits too.
section
namespace Sys2Proof.Machine.Places

/-! ## A session on a line that waits and is not CONNECTED -/

/-- Session 4, of account 5, on line 3. -/
def sessionOfWaiter : Session :=
  { number := 4, account := 5, snapshot := ⟨0, {}⟩, boundLine := some 3, firstLine := 3, lastLine := 3, start := {},
    meter := { rate := 720, multiplier := 16 } }

/-- The account of the line at the head. -/
def headAccount : Account := { number := 77, classNo := 0, check := 0, balance := 1, limit := 1 }

/-- Lines 9 and 3 wait, in that order, and every slot is in use: line 9 for account 77, which passes the checks of R106, and
line 3, in ANSWERING, while session 4 is bound to it. -/
def boundBehind : State :=
  { State.reset with
    lines := (State.reset.lines.set 3 { state := .answering, holder := .session 4 }).set 9
      { state := .connected, holder := .dialogue ⟨.waiting, 0, .stopped, some 77, none⟩ },
    accounts := [headAccount], waitQueue := [9, 3], sessions := [sessionOfWaiter],
    tariff := { period := some ⟨0, Vector.replicate 4 (.open 720)⟩ }, link := { limits := { hostSlots := 1 } } }

theorem boundBehind_ready : boundBehind.ready := by decide +kernel

theorem boundBehind_waits : boundBehind.waitsFor 9 77 :=
  ⟨by decide +kernel, ⟨.waiting, 0, .stopped, some 77, none⟩, by decide +kernel, rfl, rfl⟩

theorem boundBehind_passes : boundBehind.headPasses 77 headAccount :=
  ⟨by decide +kernel, rfl, ⟨_, 720, rfl, by decide +kernel⟩, .inl (by decide), by decide, by decide⟩

/-- The drop of line 3 takes it on hook and out of the wait queue (R14, R109). -/
theorem boundBehind_leaves : ∃ t, exec (.endSession [0#8, 4#8]) boundBehind = .next t ∧ t.waitQueue = [] :=
  ⟨_, rfl, by decide +kernel⟩

/-- Refutes O10: its third part has the lines behind an admitted head go on waiting, but a line behind it to which the session that
closes is bound goes on hook where it is in ANSWERING, and waits no longer. `linesBound` allows no such state; the part does not
ask for it, nor, as the second part does, that the bound line does not wait. -/
theorem not_endSessionFinalizesTheCharge : ¬ Obligations.EndSessionFinalizesTheCharge := by
  rintro ⟨-, -, admits, -⟩
  have number : beNat [0#8, 4#8] ≠ 0 := by decide
  have closes : boundBehind.findSession (beNat [0#8, 4#8]) = some sessionOfWaiter := by decide +kernel
  obtain ⟨t, y, b, run, -, -, -, -, -, -, -, -, -, -, -, rest, -⟩ :=
    admits boundBehind 0#8 4#8 sessionOfWaiter 9 [3] 77 headAccount boundBehind_ready rfl (by decide) number closes (by decide)
      (by decide) boundBehind_waits boundBehind_passes (by decide) (by decide) (.inr rfl)
  obtain ⟨u, run', empty⟩ := boundBehind_leaves
  obtain rfl : t = u := Host.Outcome.next.inj (run.symm.trans run')
  cases rest.symm.trans empty

end Sys2Proof.Machine.Places
end

-- Session records and bill records: what every command does to their numbers.
section
namespace Sys2Proof.Machine.Records

open Places (desk)

/-! ## What can happen to session records and bill records -/

/-- What any run of operations does to the numbers of session records and bill records: it leaves them, admits a session with a
slot free and a reservation left (R97, R106), closes a session into a bill record (R121, R160), or changes the limits within the
host slot limit's range (R173); or several of these, one after another. TAKE BILL and power-up stand apart: no other operation
takes a bill record away. -/
inductive Booked : State → State → Prop
  | still {s t : State} (sessions : t.sessions.length = s.sessions.length) (bills : t.bills = s.bills)
      (limits : t.link.limits = s.link.limits) : Booked s t
  | seat {s t : State} (slot : s.sessions.length < s.link.limits.hostSlots)
      (reservation : s.sessions.length + s.bills.length < 128) (sessions : t.sessions.length = s.sessions.length + 1)
      (bills : t.bills = s.bills) (limits : t.link.limits = s.link.limits) : Booked s t
  | close {s t : State} (b : Bill) (sessions : t.sessions.length + 1 = s.sessions.length) (bills : t.bills = s.bills ++ [b])
      (limits : t.link.limits = s.link.limits) : Booked s t
  | limit {s t : State} (sessions : t.sessions.length = s.sessions.length) (bills : t.bills = s.bills)
      (limits : t.link.limits.hostSlots ≤ 32) : Booked s t
  | trans {s t u : State} (first : Booked s t) (second : Booked t u) : Booked s u

/-- The bounds on session records and bill records (R112, R160, R173). -/
def Within (s : State) : Prop := s.billsFit ∧ s.slotsFit

variable {s t u : State}

/-- Every such run keeps the bounds. -/
theorem Booked.within (h : Booked s t) (fits : Within s) : Within t := by
  induction h with
  | trans _ _ ih₁ ih₂ => exact ih₂ (ih₁ fits)
  | still sessions bills limits | seat _ _ sessions bills limits | close _ sessions bills limits =>
    obtain ⟨reservations, limit, slots⟩ := fits
    unfold State.billsFit at reservations
    simp only [Within, State.billsFit, State.slotsFit, bills, limits, List.length_append, List.length_singleton]
    omega
  | limit sessions bills limits =>
    obtain ⟨reservations, -, slots⟩ := fits
    unfold State.billsFit at reservations
    exact ⟨by rwa [State.billsFit, sessions, bills], limits, sessions ▸ slots⟩

theorem Booked.refl (s : State) : Booked s s := .still rfl rfl rfl

/-- States that agree in the session states, the limits and the bill records have the same numbers of them. -/
theorem Booked.same (h : Booked s t) (read : desk u = desk t) (bills : u.bills = t.bills) : Booked s u := by
  simp only [desk, Prod.mk.injEq] at read
  obtain ⟨states, -, -, limits⟩ := read
  exact h.trans (.still (Places.length_of_states states) bills limits)

/-! ## Operations that others end with -/

theorem Booked.dropWithoutMessage (h : Booked s t) (p : Port) (d : Destination) : Booked s (t.dropWithoutMessage p d) :=
  h.same (by simp [desk]) (by simp)

theorem Booked.farewell (h : Booked s t) (p : Port) : Booked s (t.farewell p) := h.same (by simp [desk]) (by simp)

theorem Booked.queueMessage (h : Booked s t) (p : Port) (m : Slot) : Booked s (t.queueMessage p m) :=
  h.same (by simp [desk]) (by simp)

theorem Booked.mapLine (h : Booked s t) (p : Port) (f : Line → Line) : Booked s (t.mapLine p f) :=
  h.same (by simp [desk]) (by simp)

theorem Booked.setLine (h : Booked s t) (p : Port) (l : Line) : Booked s (t.setLine p l) := h.same (by simp [desk]) (by simp)

theorem Booked.mapSession (h : Booked s t) (n : Nat) (f : Session → Session) : Booked s (t.mapSession n f) :=
  h.trans (.still (by simp) rfl rfl)

theorem Booked.setLink (h : Booked s t) (k : Link) (limits : k.limits = t.link.limits) : Booked s { t with link := k } :=
  h.trans (.still rfl rfl limits)

theorem Booked.placeReply (h : Booked s t) (k : Byte) (c : ReplyCode) (d : List Byte) : Booked s (t.placeReply k c d) :=
  h.setLink _ rfl

/-! ## Admission, the wait queue and close -/

/-- An admission, the slot and the reservation it needs being free (R97, R98). -/
theorem Booked.admitLine (h : Booked s t) (p : Port) (a : Account) (slot : t.sessions.length < t.link.limits.hostSlots)
    (reservation : t.sessions.length + t.bills.length < 128) : Booked s (t.admitLine p a) :=
  h.trans (.seat slot reservation (by simpa using congrArg List.length (Places.states_admitLine t p a)) (by simp) (by simp))

/-- The checks of R106 leave a reservation free. -/
theorem reservation_of_headRefusal {a : Account} (passes : s.headRefusal a = none) :
    s.sessions.length + s.bills.length < 128 := by
  unfold State.headRefusal at passes
  repeat' split at passes
  all_goals cases passes
  next reservation => exact Nat.lt_of_not_le reservation

/-- A line taken from the wait queue is judged with a slot free (R106). -/
theorem Booked.judgeHead (h : Booked s t) (p : Port) (slot : t.sessions.length < t.link.limits.hostSlots) :
    Booked s (t.judgeHead p) := by
  unfold State.judgeHead
  repeat' split
  · exact h.same (by simp [desk]) (by simp)
  · exact (h.queueMessage p _).farewell p
  · exact (h.queueMessage p _).farewell p
  · next passes => exact h.admitLine p _ slot (reservation_of_headRefusal passes)

theorem Booked.evaluateQueue (h : Booked s t) (k : Nat) : Booked s (State.evaluateQueue k t) := by
  induction k generalizing t with
  | zero => exact h
  | succ k ih =>
    unfold State.evaluateQueue
    repeat' split
    · exact h
    · next p rest _ slot =>
      have taken : Booked s { t with waitQueue := rest } := h.same rfl rfl
      exact ih (taken.judgeHead p slot)
    · exact h

theorem Booked.evaluate (h : Booked s t) : Booked s t.evaluate := h.evaluateQueue _

theorem addBill_bills (s : State) (b : Bill) (quiet : Bool) : (s.addBill b quiet).bills = s.bills ++ [b] := by
  unfold State.addBill
  dsimp only
  split <;> simp

/-- The record of a session becomes its bill record (R121, R161). -/
theorem booked_freeSession (s : State) (n k : Nat) (b : Bill) (f : Account → Account) (quiet : Bool) {x : Session}
    (found : (s.finalize n).findSession n = some x) :
    Booked s ((((s.finalize n).addBill b quiet).mapAccount k f).freeSession n quiet) := by
  have finalized : (s.finalize n).sessions.length = s.sessions.length := Places.length_of_states (Places.states_finalize s n)
  have inTable : x ∈ (s.finalize n).sessions := List.mem_of_find?_eq_some found
  have number := List.find?_some (p := fun y : Session => y.number == n) found
  have erased := List.length_eraseP_of_mem (p := fun y : Session => y.number == n) inTable number
  have some_session : 0 < (s.finalize n).sessions.length := List.length_pos_of_mem inTable
  refine .close b ?_ (by simp [addBill_bills]) (by simp)
  simp only [Places.freeSession_sessions, State.mapAccount_frame, State.addBill_frame]
  omega

theorem Booked.closeSession (h : Booked s t) (n : Nat) (c : Cause) (quiet : Bool) : Booked s (t.closeSession n c quiet) := by
  refine h.trans ?_
  unfold State.closeSession
  dsimp only
  split
  · exact .refl t
  · next x found =>
    have freed := booked_freeSession t n x.account ((t.finalize n).billOf x c) (fun a => { a with active := a.active - 1 })
      quiet found
    repeat' split
    · exact freed
    · exact freed.evaluate.same (by simp [desk]) (by simp)
    · exact freed.same (by simp [desk]) (by simp)

theorem Booked.closeAndAct (h : Booked s t) (n : Nat) (c : Cause) : Booked s (t.closeAndAct n c) :=
  (h.closeSession n c false).same (by simp [desk, State.closeAndAct]) (by simp [State.closeAndAct])

/-- Sessions close one after another (R120, R127). -/
theorem Booked.closeAll (h : Booked s t) (ns : List Nat) {close : State → Nat → State}
    (closes : ∀ {q : State} (n : Nat), Booked s q → Booked s (close q n)) : Booked s (ns.foldl close t) := by
  induction ns generalizing t with
  | nil => exact h
  | cons n ns ih => exact ih (closes n h)

theorem Booked.loseLine (h : Booked s t) (n : Nat) (p : Port) (r : HeldReason) : Booked s (t.loseLine n p r) := by
  unfold State.loseLine
  split
  · exact h
  · dsimp only
    split
    · exact h.closeSession n _ _
    · exact h.trans (.still (by simp) (by simp) (by simp))

theorem Booked.tellHolder (h : Booked s t) (p : Port) (r : HeldReason) : Booked s (t.tellHolder p r) := by
  unfold State.tellHolder
  split
  · exact h.loseLine _ p r
  · exact h.same (by simp [desk]) (by simp)
  · exact h

theorem Booked.takeFault (h : Booked s t) (p : Port) (k : FaultKind) : Booked s (t.takeFault p k) := by
  have judged : Booked s (t.judgeFault p k).1 := h.same (by simp [desk]) (by simp)
  unfold State.takeFault
  dsimp only
  split
  · exact (judged.tellHolder p _).dropWithoutMessage p _
  · exact judged

theorem Booked.countError (h : Booked s t) (p : Port) : Booked s (t.countError p).1 := by
  unfold State.countError
  dsimp only
  split
  · exact (h.mapLine p _).takeFault p _
  · exact h.mapLine p fun l => { l with noiseCount := (t.line p).noiseCount + 1 }

/-! ## Sign-on -/

theorem Booked.refuseSignOn (h : Booked s t) (p : Port) (d : Dialogue) (m : Slot) : Booked s (t.refuseSignOn p d m) :=
  h.same (by simp [desk]) (by simp)

theorem Booked.capacityChecks (h : Booked s t) (p : Port) (d : Dialogue) (a : Account) : Booked s (t.capacityChecks p d a) := by
  unfold State.capacityChecks
  repeat' split
  · exact h.refuseSignOn p d _
  · exact h.refuseSignOn p d _
  · next reservation slot => exact h.admitLine p a slot (Nat.lt_of_not_le reservation)
  · exact h.same (by simp [desk]) (by simp)
  · exact (h.queueMessage p _).farewell p

theorem Booked.accountChecks (h : Booked s t) (p : Port) (d : Dialogue) (a : Account) : Booked s (t.accountChecks p d a) := by
  unfold State.accountChecks
  repeat' split
  · exact h.refuseSignOn p d _
  · exact h.refuseSignOn p d _
  · next x _ =>
    have reattached := h.mapSession x.number (fun y => { y with
      state := .open, boundLine := some p, hold := none, idle := 0, idleWarned := false,
      reattaches := restAt 255 (y.reattaches + 1), lastLine := p })
    exact reattached.same (by simp [desk, State.reattach]) (by simp [State.reattach])
  · exact h.capacityChecks p d a

theorem Booked.judgeRecord (h : Booked s t) (p : Port) (d : Dialogue) (text : List Code) (marks : List Nat) (st : RecordStatus) :
    Booked s (t.judgeRecord p d text marks st) := by
  have counted (a : Account) : Booked s (t.countFailure p a) := h.same (by simp [desk]) (by simp)
  have forgiven (n : Nat) : Booked s (t.mapAccount n (fun x => { x with failures := 0 })) := h.same (by simp [desk]) (by simp)
  unfold State.judgeRecord
  repeat' split
  · exact h.same (by simp [desk]) (by simp)
  · exact h.refuseSignOn p d _
  · exact h.refuseSignOn p d _
  · exact (forgiven _).accountChecks p d _
  · exact h.refuseSignOn p d _
  · exact h.refuseSignOn p d _
  · exact (counted _).refuseSignOn p d _
  · exact h.refuseSignOn p d _
  · exact h.refuseSignOn p d _

/-! ## The host state (R175, R177) -/

theorem Booked.hostDown (h : Booked s t) : Booked s t.hostDown :=
  h.trans (.still (by simp [Places.hostDown_sessions]) (by simp) (by simp))

theorem Booked.goodFrame (h : Booked s t) : Booked s t.goodFrame :=
  h.trans (.still (Places.goodFrame_length t) (by simp) (by simp))

end Sys2Proof.Machine.Records
end

-- Session records and bill records: expiries, marks, calls and characters.
section
namespace Sys2Proof.Machine.Records

open Places (desk)

variable {s t : State}

/-! ## Expiries -/

theorem Booked.answerWindowExpires (h : Booked s t) (p : Port) : Booked s (t.answerWindowExpires p) := by
  unfold State.answerWindowExpires
  split
  · exact h.takeFault p _
  · exact h

theorem Booked.speedWindowExpires (h : Booked s t) (p : Port) : Booked s (t.speedWindowExpires p) := by
  unfold State.speedWindowExpires
  split
  · exact h.takeFault p _
  · exact h

theorem Booked.drainLimitExpires (h : Booked s t) (p : Port) : Booked s (t.drainLimitExpires p) := by
  unfold State.drainLimitExpires
  split
  · exact h.dropWithoutMessage p _
  · exact h

theorem Booked.windowExpires (h : Booked s t) (p : Port) : Booked s (t.windowExpires p) := by
  unfold State.windowExpires
  split
  · exact h.answerWindowExpires p
  · exact h.speedWindowExpires p
  · exact h.drainLimitExpires p
  all_goals exact h.same (by simp [desk]) (by simp)

/-- Hold, idle limit, funds grace and closing countdown each close their session, or leave all as it is (R115, R117, R151). -/
theorem sessionExpiry_closes (s : State) (n : Nat) :
    ∀ u ∈ [s.holdExpires n, s.idleLimitExpires n, s.graceExpires n, s.countdownExpires n],
      u = s ∨ ∃ w, u = s.closeAndAct n w := by
  simp only [State.holdExpires, State.idleLimitExpires, State.graceExpires, State.countdownExpires, List.forall_mem_cons]
  refine ⟨?_, ?_, ?_, ?_, by simp⟩
  all_goals
    repeat' split
    · exact .inl rfl
    · exact .inr ⟨_, rfl⟩
    · exact .inl rfl

theorem Booked.sessionExpiry (h : Booked s t) (n : Nat) {u : State}
    (hu : u ∈ [t.holdExpires n, t.idleLimitExpires n, t.graceExpires n, t.countdownExpires n]) : Booked s u := by
  rcases sessionExpiry_closes t n u hu with rfl | ⟨w, rfl⟩
  · exact h
  · exact h.closeAndAct n w

theorem Booked.hostDownLimitExpires (h : Booked s t) : Booked s t.hostDownLimitExpires := by
  unfold State.hostDownLimitExpires State.loseSessions
  split
  · refine Booked.closeAll ?_ _ fun n b => b.closeAndAct n _
    exact (h.setLink { t.link with downRemaining := none, downExpired := true } rfl).same (by simp [desk]) (by simp)
  · exact h

theorem Booked.linkTimeoutExpires (h : Booked s t) : Booked s t.linkTimeoutExpires := by
  unfold State.linkTimeoutExpires
  split
  · exact h.hostDown
  · exact h

/-! ## Second marks -/

theorem Booked.queueMessageTo (h : Booked s t) (o : Option Port) (m : Slot) : Booked s (t.queueMessageTo o m) :=
  h.same (by simp [desk]) (by simp)

theorem Booked.countIdle (h : Booked s t) (n : Nat) : Booked s (t.countIdle n).1 := by
  unfold State.countIdle
  split
  · exact h
  · have counted (k : Nat) := h.mapSession n fun y => { y with idle := k }
    dsimp only
    repeat' split
    · exact (counted _).closeAndAct n _
    · exact ((counted _).queueMessageTo _ _).mapSession n _
    · exact counted _

theorem Booked.relatch (h : Booked s t) (n : Nat) (v : Latch) : Booked s (t.relatch n v) := h.same (by simp [desk]) (by simp)

theorem Booked.chargeSecond (h : Booked s t) (n : Nat) (ran : Bool) : Booked s (t.chargeSecond n ran).1 :=
  h.same (by simp [desk]) (by simp)

theorem Booked.sessionShare (h : Booked s t) (n : Nat) (ran : Bool) (v : Latch) : Booked s (t.sessionShare n ran v) := by
  unfold State.sessionShare
  split
  · exact h
  · split
    · have charged := (h.mapSession n fun y => { y with metered := restAt Config.maxMoney (y.metered + 1) }).chargeSecond n ran
      dsimp only
      split
      · next e =>
        rw [e] at charged
        exact charged.closeAndAct n _
      · next e =>
        rw [e] at charged
        have idle := charged.countIdle n
        dsimp only at idle
        split
        · next still => rwa [still] at idle
        · next still =>
          rw [still] at idle
          exact idle.relatch n v
    · exact (h.mapSession n _).relatch n v
    · dsimp only
      split
      · exact (h.mapSession n _).closeAndAct n _
      · exact (h.mapSession n _).relatch n v

theorem Booked.runTask (h : Booked s t) (v : Latch) (x : MarkTask) : Booked s (t.runTask v x) := by
  unfold State.runTask
  repeat' split
  · exact h.windowExpires _
  · exact h
  · exact h.same (by simp [desk]) (by simp)
  · exact h
  · exact h.same (by simp [desk]) (by simp)
  · exact h
  · exact h.same (by simp [desk]) (by simp)
  · exact h.hostDownLimitExpires
  · exact h
  · exact h.sessionShare _ _ _

theorem Booked.runTasks (h : Booked s t) (v : Latch) (xs : List MarkTask) : Booked s (t.runTasks v xs) := by
  unfold State.runTasks
  induction xs generalizing t with
  | nil => exact h
  | cons x xs ih => exact ih (h.runTask v x)

theorem Booked.tariffShare (h : Booked s t) (wraps : Bool) (xs ys : List MarkTask) : Booked s (t.tariffShare wraps xs ys) :=
  h.same (by simp [desk, State.tariffShare]) (by simp [State.tariffShare])

theorem Booked.secondMark (h : Booked s t) : Booked s t.secondMark := by
  have limits : t.advanceClock.link.countMark.limits = t.link.limits := by
    unfold Link.countMark
    split <;> simp
  have lowered : Booked s t.advanceClock.countMark.nextDraw :=
    h.trans (.still (by simp [State.countMark]) (by simp [State.countMark]) limits)
  unfold State.secondMark
  dsimp only
  split
  · exact ((lowered.runTasks _ _).tariffShare _ _ _).runTasks _ _
  · exact lowered.runTasks _ _

/-! ## Calls and characters -/

theorem Booked.carrierLost (h : Booked s t) (p : Port) : Booked s (t.carrierLost p) := by
  have hooked {q : State} (kept : Booked s q) : Booked s ((q.goOnHook p .idle).raiseEvent p (.callEnded .carrierLost)) :=
    kept.same (by simp [desk]) (by simp)
  unfold State.carrierLost
  dsimp only
  repeat' split
  · exact hooked h
  · exact hooked (h.tellHolder p _)
  · exact hooked h
  · exact h
  · exact h

theorem Booked.attemptFails (h : Booked s t) (p : Port) : Booked s (t.attemptFails p) := by
  have counted := h.mapLine p fun _ => { t.line p with searchAttempts := (t.line p).searchAttempts + 1, settling := true }
  unfold State.attemptFails
  dsimp only
  repeat' split
  · exact counted
  · exact counted.takeFault p _
  · exact h

theorem Booked.signalLife (h : Booked s t) (p : Port) : Booked s (t.signalLife p) := by
  unfold State.signalLife
  split
  · exact h.mapSession _ _
  · exact h

theorem Booked.sendEcho (h : Booked s t) (p : Port) (on : Bool) (r : Assembled) : Booked s (t.sendEcho p on r) := by
  unfold State.sendEcho
  dsimp only
  repeat' split
  all_goals exact h.same (by simp [desk]) (by simp)

theorem Booked.assembleInput (h : Booked s t) (p : Port) (n : Nat) (c : Code) : Booked s (t.assembleInput p n c) := by
  have echoed := (h.setLine p { t.line p with
    partialRecord := ((t.line p).partialRecord.assemble (t.line p).settings false c).rest }).sendEcho p (t.line p).echo
      ((t.line p).partialRecord.assemble (t.line p).settings false c)
  unfold State.assembleInput
  dsimp only
  repeat' split
  · exact echoed.mapLine p _
  · exact echoed
  · exact echoed.same (by simp [desk]) (by simp)

theorem Booked.assembleSignOn (h : Booked s t) (p : Port) (d : Dialogue) (c : Code) : Booked s (t.assembleSignOn p d c) := by
  unfold State.assembleSignOn
  dsimp only
  split
  · exact (h.setLine p _).sendEcho p true _
  · exact ((h.setLine p _).sendEcho p true _).judgeRecord p d _ _ _

theorem Booked.deliver (h : Booked s t) (p : Port) (c : Code) : Booked s (t.deliver p c) := by
  have bel : Booked s (t.sendBel p) := h.same (by simp [desk]) (by simp)
  unfold State.deliver
  repeat' split
  · exact h
  · exact h
  · exact h.assembleSignOn p _ c
  · exact bel
  · exact h
  · exact h
  · exact bel
  · exact h.assembleInput p _ c
  · exact bel
  · exact h

theorem Booked.receive (h : Booked s t) (p : Port) (c : Code) (bit framing : Bool) : Booked s (t.receive p c bit framing) := by
  have spaced := h.mapLine p fun l => { l with space := .none }
  have counted := (spaced.signalLife p).countError p
  unfold State.receive
  split
  · dsimp only
    split
    · split
      · next ended => rwa [ended] at counted
      · next on =>
        rw [on] at counted
        split
        · exact counted.deliver p _
        · exact counted
    · exact (spaced.signalLife p).deliver p c
  · exact spaced
  · exact h

theorem Booked.breakActs (h : Booked s t) (p : Port) : Booked s (t.breakActs p) := by
  unfold State.breakActs State.breakRecord
  repeat' split
  · exact h
  · exact h.assembleSignOn p _ _
  · exact h
  · exact h
  · dsimp only
    split <;> exact (h.signalLife p).same (by simp [desk]) (by simp)
  · exact h

end Sys2Proof.Machine.Records
end

-- Session records and bill records: orders, frames, every command.
section
namespace Sys2Proof.Machine.Records

open Places (desk)

variable {s t : State}

/-! ## Orders -/

/-- What an order does to session records and bill records, of every state that it finds. -/
def BooksOnly (order : List Byte → State → State) : Prop := ∀ (body : List Byte) (s : State), Booked s (order body s)

theorem Booked.refuse (h : Booked s t) (k : Byte) (c : ReplyCode) : Booked s (t.refuse k c) := h.placeReply k c []

/-- An order that changes nothing that host state, wait queue and money rest on leaves both numbers. -/
theorem booksOnly_of_spares {order : List Byte → State → State} (places : Places.SparesPlaces order)
    (money : Accounts.SparesMoney order) : BooksOnly order := fun body s =>
  (Booked.refl s).same (places body s).1 (by
    have ledgers := money body s
    simp only [Accounts.ledger, Prod.mk.injEq] at ledgers
    exact ledgers.2.2.2)

/-- An order that leaves the session states and the bill records leaves both numbers. -/
theorem booksOnly_of_bills {order : List Byte → State → State} (places : Places.SparesPlaces order)
    (bills : ∀ (body : List Byte) (s : State), (order body s).bills = s.bills) : BooksOnly order := fun body s =>
  (Booked.refl s).same (places body s).1 (bills body s)

theorem setClock_bills (body : List Byte) (s : State) : (orderSetClock body s).bills = s.bills := by
  unfold orderSetClock State.setClockTo
  split <;> simp

theorem setClass_bills (body : List Byte) (s : State) : (orderSetClass body s).bills = s.bills := by
  unfold orderSetClass
  split <;> simp

theorem loadAccount_bills (body : List Byte) (s : State) : (orderLoadAccount body s).bills = s.bills := by
  unfold orderLoadAccount State.loadAccount State.loadReply
  repeat' split
  all_goals simp

theorem creditAccount_bills (body : List Byte) (s : State) : (orderCreditAccount body s).bills = s.bills := by
  unfold orderCreditAccount
  repeat' split
  all_goals simp

theorem dropAccount_bills (body : List Byte) (s : State) : (orderDropAccount body s).bills = s.bills := by
  unfold orderDropAccount State.removeAccount
  repeat' split
  all_goals simp

theorem unlockAccount_bills (body : List Byte) (s : State) : (orderUnlockAccount body s).bills = s.bills := by
  unfold orderUnlockAccount
  repeat' split
  all_goals simp

theorem Booked.restartPart (h : Booked s t) : Booked s t.restartPart := by
  have quiet : Booked s t.restartQueues.restartDialogues.nextDraw := h.same rfl rfl
  have closed : Booked s t.restartQueues.restartDialogues.restartSessions :=
    quiet.closeAll _ fun n b => b.closeSession n .restart true
  exact closed.trans (.still rfl rfl rfl)

theorem booksOnly_restart : BooksOnly orderRestart := by
  intro body s
  unfold orderRestart
  split
  · exact (Booked.refl s).restartPart.placeReply _ _ _
  · exact (Booked.refl s).refuse _ _

/-- SET LIMITS stores a host slot limit of 1 to 32 (R173), and evaluates the wait queue where it is raised (R105). -/
theorem booked_storeLimits (s : State) (x : Limits) (limit : x.hostSlots ≤ 32) : Booked s (s.storeLimits x) := by
  have stored : Booked s ({ s with link := { s.link with limits := x } } : State).restartTimeout := .limit rfl rfl limit
  unfold State.storeLimits
  dsimp only
  split
  · exact stored.evaluate
  · exact stored

theorem clamp_hostSlots (x : Limits) : x.clamp.hostSlots ≤ 32 := by
  simp only [Limits.clamp, clampTo]
  split_ifs <;> omega

theorem booksOnly_setLimits : BooksOnly orderSetLimits := by
  intro body s
  unfold orderSetLimits
  split
  · exact (booked_storeLimits s _ (clamp_hostSlots _)).placeReply _ _ _
  · exact (Booked.refl s).refuse _ _

theorem Booked.serviceOut (h : Booked s t) (p : Port) : Booked s (t.serviceOut p) := by
  have removed : Booked s (t.removeHolder p) := by
    unfold State.removeHolder
    repeat' split
    · exact h.closeSession _ _ _
    · exact h.same (by simp [desk]) (by simp)
    · exact h
    · exact h
  unfold State.serviceOut
  dsimp only
  repeat' split
  · exact h
  · exact removed.same (by simp [desk]) (by simp)
  · exact removed.same (by simp [desk]) (by simp)

theorem booksOnly_lineService : BooksOnly orderLineService := by
  intro body s
  have same := Booked.refl s
  unfold orderLineService
  split
  · unfold State.serviceIn
    repeat' split
    all_goals exact same.same (by simp [desk]) (by simp)
  · exact (same.serviceOut _).placeReply _ _ _
  · refine Booked.placeReply ?_ _ _ _
    unfold State.serviceRestore
    split
    all_goals exact same.same (by simp [desk]) (by simp)
  · exact same.refuse _ _

theorem booksOnly_dropLine : BooksOnly orderDropLine := by
  intro body s
  have same := Booked.refl s
  unfold orderDropLine State.dropCall State.dropConnected
  repeat' split
  · exact (same.dropWithoutMessage _ _).placeReply _ _ _
  · exact (same.dropWithoutMessage _ _).placeReply _ _ _
  · exact (same.closeAndAct _ _).placeReply _ _ _
  · exact same.same (by simp [desk]) (by simp)
  · exact (same.dropWithoutMessage _ _).placeReply _ _ _
  · exact same.refuse _ _
  · exact same.refuse _ _

theorem booksOnly_endSession : BooksOnly orderEndSession := by
  intro body s
  have same := Booked.refl s
  unfold orderEndSession
  repeat' split
  · exact same.refuse _ _
  · exact same.refuse _ _
  · exact (same.closeAndAct _ _).placeReply _ _ _

/-- TAKE BILL alone takes a bill record away (R163). -/
theorem within_takeBill (body : List Byte) (s : State) (fits : Within s) : Within (orderTakeBill body s) := by
  have same := Booked.refl s
  unfold orderTakeBill
  repeat' split
  · exact (same.placeReply _ _ _).within fits
  · next b rest bills =>
    obtain ⟨reservations, slots⟩ := fits
    simp only [State.billsFit, bills, List.length_cons] at reservations
    exact ⟨(by omega : s.sessions.length + rest.length ≤ 128), slots⟩
  · exact (same.refuse _ _).within fits

/-! ## Frames -/

/-- Every order but TAKE BILL books (R168). -/
theorem booksOnly_orderFor {kind : Byte} {order : List Byte → State → State} (e : orderFor kind = some order) :
    BooksOnly order ∨ order = orderTakeBill := by
  unfold orderFor at e
  split at e <;> cases e
  case h_26 => exact .inr rfl
  all_goals refine .inl ?_
  · exact booksOnly_of_spares Places.spares_mark Accounts.sparesMoney_mark
  · exact booksOnly_restart
  · exact booksOnly_of_bills Places.spares_setClock setClock_bills
  · exact booksOnly_setLimits
  · exact booksOnly_of_spares Places.spares_setReports Accounts.sparesMoney_setReports
  · exact booksOnly_of_spares Places.spares_setMessage Accounts.sparesMoney_setMessage
  · exact booksOnly_of_spares Places.spares_setFaultPolicy Accounts.sparesMoney_setFaultPolicy
  · exact booksOnly_of_bills Places.spares_setClass setClass_bills
  · exact booksOnly_of_spares Places.spares_setLoadSteps Accounts.sparesMoney_setLoadSteps
  · exact booksOnly_of_bills Places.spares_loadAccount loadAccount_bills
  · exact booksOnly_of_bills Places.spares_creditAccount creditAccount_bills
  · exact booksOnly_of_bills Places.spares_dropAccount dropAccount_bills
  · exact booksOnly_of_bills Places.spares_unlockAccount unlockAccount_bills
  · exact booksOnly_of_spares Places.spares_queryAccount Accounts.sparesMoney_queryAccount
  · exact booksOnly_of_spares Places.spares_tariffClear Accounts.sparesMoney_tariffClear
  · exact booksOnly_of_spares Places.spares_tariffEntry Accounts.sparesMoney_tariffEntry
  · exact booksOnly_of_spares Places.spares_commitTariff Accounts.sparesMoney_commitTariff
  · exact booksOnly_of_spares Places.spares_queryTariff Accounts.sparesMoney_queryTariff
  · exact booksOnly_lineService
  · exact booksOnly_of_spares Places.spares_setLine Accounts.sparesMoney_setLine
  · exact booksOnly_dropLine
  · exact booksOnly_of_spares Places.spares_queryLine Accounts.sparesMoney_queryLine
  · exact booksOnly_of_spares Places.spares_sendText Accounts.sparesMoney_sendText
  · exact booksOnly_endSession
  · exact booksOnly_of_spares Places.spares_querySession Accounts.sparesMoney_querySession

theorem booksOnly_unknown (kind : Byte) : BooksOnly (orderUnknown kind) :=
  booksOnly_of_spares (Places.spares_unknown kind) (Accounts.sparesMoney_unknown kind)

/-- An order carried out behind what its good frame does to the link monitor keeps the bounds (R177). -/
theorem within_order {kind : Byte} {order : List Byte → State → State}
    (e : orderFor kind = some order ∨ order = orderUnknown kind) (body : List Byte) (fits : Within s) :
    Within (order body s.goodFrame) := by
  have framed := (Booked.refl s).goodFrame
  rcases e with listed | rfl
  · rcases booksOnly_orderFor listed with books | rfl
    · exact (framed.trans (books body _)).within fits
    · exact within_takeBill body _ (framed.within fits)
  · exact (framed.trans (booksOnly_unknown kind body _)).within fits

theorem within_carryOut (f : Frame) (fits : Within s) : Within (s.carryOut f) := by
  unfold State.carryOut
  repeat' split
  · next listed => exact within_order (.inl listed) f.body fits
  · exact within_order (.inr rfl) f.body fits
  · exact fits

theorem within_takeBytes (bs : List Byte) (fits : Within s) : Within (s.takeBytes bs) :=
  State.takeBytes_keeps Within (fun _ f _ _ => within_carryOut f) (fun _ _ => id) (fun _ _ _ => id) s bs fits

theorem within_takeFrame (f : Frame) (carry : State → State) (fits : Within s) (carried : Within (carry s)) :
    Within (s.takeFrame f carry) := by
  unfold State.takeFrame State.meetFrame
  repeat' split
  · exact fits
  · exact fits
  · exact carried
  · exact within_takeBytes _ fits

theorem within_sendReply (r : Reply) (fits : Within s) : Within (s.sendReply r) := by
  unfold State.sendReply
  dsimp only
  split
  · exact within_carryOut _ fits
  · exact fits

/-! ## Every command -/

/-- Every command has a next state, which keeps the bounds: a frame carries out one order, power-up leaves no record, and any
other command books (R168, R180). -/
theorem within_exec (c : Instr) (fits : Within s) : ∃ t, exec c s = .next t ∧ Within t := by
  by_cases frame : ∃ f, frameOf c = some f
  · obtain ⟨⟨kind, body⟩, e⟩ := frame
    obtain ⟨order, known, run⟩ := Accounts.exec_of_frame e s
    exact ⟨_, run, within_takeFrame _ _ fits (within_order known body fits)⟩
  have same := Booked.refl s
  cases c with
  | powerUp => exact ⟨_, rfl, Nat.zero_le _, le_rfl, Nat.zero_le _⟩
  | secondMark => exact ⟨_, rfl, same.secondMark.within fits⟩
  | answerWindowExpiry p => exact ⟨_, rfl, (same.answerWindowExpires p).within fits⟩
  | speedWindowExpiry p => exact ⟨_, rfl, (same.speedWindowExpires p).within fits⟩
  | drainLimitExpiry p => exact ⟨_, rfl, (same.drainLimitExpires p).within fits⟩
  | guardTimeExpiry | retryPeriodExpiry | noiseWindowExpiry | signOnLimitExpiry | waitLimitExpiry | lockTimerExpiry =>
    exact ⟨_, rfl, (same.same (by simp [desk]) (by simp)).within fits⟩
  | ringIndicateChange p | ringStart p | abandonTimerExpiry p | carrierDetectChange p | settleInterval p | breakPending p =>
    exact ⟨_, rfl, (same.mapLine p _).within fits⟩
  | holdExpiry n | idleLimitExpiry n | fundsGraceExpiry n | closingCountdownExpiry n =>
    exact ⟨_, rfl, (same.sessionExpiry n (by simp)).within fits⟩
  | hostDownLimitExpiry => exact ⟨_, rfl, same.hostDownLimitExpires.within fits⟩
  | linkTimeoutExpiry => exact ⟨_, rfl, same.linkTimeoutExpires.within fits⟩
  | ringCompletion p =>
    refine ⟨_, rfl, Booked.within ?_ fits⟩
    unfold State.ringCompletes
    dsimp only
    repeat' split
    all_goals exact same.same (by simp [desk]) (by simp)
  | ringStuck p =>
    refine ⟨_, rfl, Booked.within ?_ fits⟩
    unfold State.ringSticks
    split
    all_goals exact same.same (by simp [desk]) (by simp)
  | carrierQualifiedPresent p =>
    refine ⟨_, rfl, Booked.within ?_ fits⟩
    unfold State.carrierQualifies
    dsimp only
    split
    all_goals exact same.same (by simp [desk]) (by simp)
  | carrierQualifiedLost p => exact ⟨_, rfl, (same.carrierLost p).within fits⟩
  | speedFound p width eighth =>
    refine ⟨_, rfl, Booked.within ?_ fits⟩
    unfold State.speedFound
    repeat' split
    all_goals exact same.same (by simp [desk]) (by simp)
  | searchAttemptFailed p f =>
    refine ⟨_, rfl, ?_⟩
    split
    · exact (same.attemptFails p).within fits
    · exact fits
  | characterReceived p c bit => exact ⟨_, rfl, (same.receive p c bit false).within fits⟩
  | heldCharacterReceived p c bit => exact ⟨_, rfl, (same.receive p c bit true).within fits⟩
  | breakReceived p =>
    have spaced := same.mapLine p fun l => { l with space := .none }
    refine ⟨_, rfl, ?_⟩
    dsimp only
    repeat' split
    · exact spaced.within fits
    · exact (spaced.breakActs p).within fits
    · exact spaced.within fits
  | longSpace p =>
    have spaced := same.mapLine p fun l => { l with space := .longSpace }
    refine ⟨_, rfl, ?_⟩
    split
    · exact (spaced.takeFault p _).within fits
    · exact spaced.within fits
    · exact fits
  | characterSent p =>
    refine ⟨_, rfl, Booked.within ?_ fits⟩
    unfold State.sendCharacter
    dsimp only
    repeat' split
    all_goals exact same.same (by simp [desk]) (by simp)
  | partMessageSent p m =>
    refine ⟨_, rfl, ?_⟩
    repeat' split
    · exact (same.setLine p _).within fits
    · exact fits
    · exact fits
  | dropDrained p =>
    refine ⟨_, rfl, ?_⟩
    split
    · exact (same.dropWithoutMessage p _).within fits
    · exact fits
  | frameLengthDiscard kind length =>
    refine ⟨_, rfl, ?_⟩
    split
    · exact fits
    · exact within_takeBytes _ fits
  | frameBadCheck kind body check => exact ⟨_, rfl, within_takeFrame _ _ fits fits⟩
  | replySendStart =>
    refine ⟨_, rfl, ?_⟩
    split
    · exact within_sendReply _ fits
    · exact fits
  | reportSendStart =>
    refine ⟨_, rfl, ?_⟩
    split
    · exact (same.same (by simp [desk, State.sendReport]) (by simp [State.sendReport])).within fits
    · exact fits
  | _ => exact absurd ⟨_, rfl⟩ frame

/-- A step is one command, or none; the queue of commands has no part in the bounds. -/
theorem within_step (fits : Within s) (run : step s = .next t) : Within t := by
  unfold step at run
  split at run
  · cases run
    exact fits
  · next c rest _ =>
    obtain ⟨u, run', kept⟩ := within_exec (s := s.withPending rest) c fits
    cases run'.symm.trans run
    exact kept

/-- Settles O52: an admission needs a slot and a reservation free, a close makes one record of another, and nothing else adds a
session record or a bill record. -/
theorem stepKeepsTheReservations : Obligations.StepKeepsTheReservations :=
  fun _ _ bills slots run => within_step ⟨bills, slots⟩ run

end Sys2Proof.Machine.Records
end

-- A good frame that finds the host DOWN.
section
namespace Sys2Proof.Machine.Records

/-! ## Messages on the lines of some sessions (R44, R119) -/

/-- A message for a session's line changes no more than one line's output queue. -/
theorem queueMessageTo_lines (s : State) (o : Option Port) (m : Slot) :
    s.queueMessageTo o m = { s with lines := (s.queueMessageTo o m).lines } := by
  cases o with
  | none => rfl
  | some q => simp only [State.queueMessageTo, State.queueMessage_eq]; rfl

theorem queueMessageTo_line (s : State) (o : Option Port) (m : Slot) (p : Port) :
    (s.queueMessageTo o m).line p = { s.line p with output := ((s.queueMessageTo o m).line p).output } := by
  cases o with
  | none => rfl
  | some q =>
    by_cases e : p = q
    · subst e
      simp [State.queueMessageTo, State.queueMessage_eq]
    · simp only [State.queueMessageTo, s.queueMessage_line_ne q m p e]

/-- Messages for the lines of some sessions change output queues alone. -/
theorem queueMessages_lines (xs : List Session) (m : Slot) (s : State) :
    xs.foldl (fun q x => q.queueMessageTo x.boundLine m) s
      = { s with lines := (xs.foldl (fun q x => q.queueMessageTo x.boundLine m) s).lines } := by
  induction xs generalizing s with
  | nil => rfl
  | cons x xs ih =>
    refine (ih (s.queueMessageTo x.boundLine m)).trans ?_
    rw [List.foldl_cons, queueMessageTo_lines s x.boundLine m]

theorem queueMessages_line (xs : List Session) (m : Slot) (s : State) (p : Port) :
    (xs.foldl (fun q x => q.queueMessageTo x.boundLine m) s).line p = { s.line p with
      output := ((xs.foldl (fun q x => q.queueMessageTo x.boundLine m) s).line p).output } := by
  induction xs generalizing s with
  | nil => rfl
  | cons x xs ih =>
    refine (ih (s.queueMessageTo x.boundLine m)).trans ?_
    rw [List.foldl_cons, queueMessageTo_line s x.boundLine m p]

/-! ## UP is restored (R119, R177) -/

/-- The state in which the messages of the resumed sessions are queued. -/
def upAgain (s : State) : State :=
  { s with
    sessions := s.sessions.map (fun x => if x.state = .stalled then { x with state := .open } else x),
    link := { s.link with host := .up, downRemaining := none, timeoutRunning := s.link.limits.linkTimeout != 0 } }

/-- RESUMED has been queued on the line of each session that was STALLED (R119). -/
def resumed (s : State) : State :=
  (s.sessions.filter (fun x => x.state == .stalled)).foldl (fun q x => q.queueMessageTo x.boundLine slotResumed) (upAgain s)

/-- What a good frame makes of a part whose host is DOWN (R177). -/
theorem goodFrame_down (s : State) (down : s.link.host = .down) :
    s.goodFrame = { upAgain s with
      lines := (resumed s).lines,
      link := (upAgain s).link.reported (.linkRestored s.link.secondsDown s.link.downExpired) } := by
  have told : s.goodFrame = (resumed s).queueReport (.linkRestored s.link.secondsDown s.link.downExpired) := by
    simp only [State.goodFrame, down]
    rfl
  rw [told, resumed, queueMessages_lines, State.queueReport_eq]

theorem goodFrame_down_line (s : State) (down : s.link.host = .down) (p : Port) :
    s.goodFrame.line p = { s.line p with output := (s.goodFrame.line p).output } := by
  have lines : s.goodFrame.line p = (resumed s).line p := by rw [goodFrame_down s down]; rfl
  rw [lines]
  exact queueMessages_line _ _ (upAgain s) p

/-- The one session that was STALLED is told RESUMED (R119). -/
theorem goodFrame_down_message (s : State) (down : s.link.host = .down) (x : Session) (p : Port)
    (one : s.sessions.filter (fun y => y.state == .stalled) = [x]) (bound : x.boundLine = some p) :
    (s.goodFrame.line p).output.map (·.code) = (s.line p).output.map (·.code) ++
      (if (s.line p).output.length + ((s.messages[slotResumed]).length + 2) ≤ 256 then
        messageCodes s.messages[slotResumed] else []) := by
  have line : s.goodFrame.line p = ((upAgain s).queueMessage p slotResumed).line p := by
    rw [goodFrame_down s down, resumed, one, List.foldl_cons, bound]
    rfl
  rw [line]
  exact (upAgain s).queueMessage_codes p slotResumed

/-- A good frame that finds no order held, no reply waiting and the assembler hunting is carried out at once: its order runs on
what the frame makes of the link monitor (R167, R177). -/
theorem takeOrder_atOnce (s : State) (kind : Byte) (body : List Byte) (order : List Byte → State → State)
    (free : s.link.heldOrder = none) (hunting : s.link.assembler = .hunting) (unanswered : s.link.replyPath = none) :
    s.takeOrder kind body order = order body s.goodFrame := by
  simp [State.takeOrder, State.takeFrame, State.meetFrame, free, hunting, unanswered]

/-- A good frame that finds the host UP and the link timeout as its setting has it changes nothing of the link monitor (R175). -/
theorem goodFrame_up (s : State) (up : s.link.host = .up)
    (timeout : s.link.timeoutRunning = (s.link.limits.linkTimeout != 0)) : s.goodFrame = s := by
  unfold State.goodFrame
  split
  · rw [State.restartTimeout, State.limits, ← timeout]
  · next down => cases up.symm.trans down

theorem goodFrame_goodFrame (s : State) (down : s.link.host = .down) : s.goodFrame.goodFrame = s.goodFrame := by
  have link := congrArg State.link (goodFrame_down s down)
  exact goodFrame_up _ (by rw [link]; simp [upAgain]) (by rw [link]; simp [upAgain])

/-- A command that is a good frame is one order, the same from every state (R168). -/
theorem exec_order_of_frame {c : Instr} {kind : Byte} {body : List Byte} (e : frameOf c = some (kind, body)) :
    ∃ order, ∀ s, exec c s = .next (s.takeOrder kind body order) := by
  cases c with
  | _ => cases e <;> exact ⟨_, fun _ => rfl⟩

/-- Settles O31: the order of a frame runs on what `goodFrame` leaves, and a frame that finds that state leaves it as it is. -/
theorem goodFrameRestoresUp : Obligations.GoodFrameRestoresUp := by
  intro s c kind body frame free hunting unanswered down
  obtain ⟨order, run⟩ := exec_order_of_frame frame
  refine ⟨s.goodFrame, ?_, ?_, goodFrame_down_line s down, goodFrame_down_message s down⟩
  · have first := takeOrder_atOnce s kind body order free hunting unanswered
    have again := takeOrder_atOnce s.goodFrame kind body order (by simpa) (by simpa) (by simpa)
    rw [run, run, first, again, goodFrame_goodFrame s down]
  · rw [goodFrame_down s down, upAgain, ← hunting]

end Sys2Proof.Machine.Records
end

-- The expiries of a session.
section
namespace Sys2Proof.Machine.Records

open InOut (unbound billed billed_fields meterOnly_finalize)

/-! ## What finalization leaves of an account (R148) -/

/-- `t` has the account records of `s` but for balances and charged totals. -/
def MoneyOnly (s t : State) : Prop := ∀ k a, s.findAccount k = some a →
  ∃ balance total, t.findAccount k = some { a with balance := balance, chargedTotal := total }

theorem MoneyOnly.refl (s : State) : MoneyOnly s s := fun _ a found => ⟨a.balance, a.chargedTotal, found⟩

theorem MoneyOnly.trans {s t u : State} (h : MoneyOnly s t) (k : MoneyOnly t u) : MoneyOnly s u := by
  intro n a found
  obtain ⟨_, _, same⟩ := h n a found
  obtain ⟨balance, total, same'⟩ := k n _ same
  exact ⟨balance, total, same'⟩

theorem moneyOnly_bookUnits (s : State) (n k : Nat) : MoneyOnly s (s.bookUnits n k) := by
  intro m a found
  unfold State.bookUnits
  split
  · exact MoneyOnly.refl s m a found
  · next x _ =>
    by_cases own : m = x.account
    · subst own
      exact ⟨_, _, State.findAccount_mapAccount _ x.account (fun a => a.book x.snapshot.record.free k) a found rfl⟩
    · refine ⟨a.balance, a.chargedTotal, ?_⟩
      rw [State.findAccount_mapAccount_ne _ _ _ _ (by exact fun _ => rfl) own]
      exact found

theorem moneyOnly_finalize (s : State) (n : Nat) : MoneyOnly s (s.finalize n) := by
  have round : MoneyOnly s (s.roundSession n) := by
    unfold State.roundSession
    repeat' split
    · exact .refl s
    · exact moneyOnly_bookUnits (s.mapSession n _) n _
    · exact .refl s
  have minimum (t : State) : MoneyOnly t (t.applyMinimum n) := by
    unfold State.applyMinimum
    repeat' split
    · exact .refl t
    · exact moneyOnly_bookUnits (t.mapSession n _) n _
    · exact .refl t
  exact round.trans (minimum _)

/-! ## A close whose place no waiting line takes, whatever line it had (R121) -/

variable {s : State} {n : Nat} {x : Session} {w : Cause}

/-- The session is off its line, if it has one, and off the table, and the band is not yet evaluated. -/
def gone (s : State) (n : Nat) (x : Session) (w : Cause) : State :=
  let q := match x.boundLine with
    | some p => (billed s n x w).unbindLine p
    | none => billed s n x w
  { q with sessions := q.sessions.eraseP (fun y => y.number == n) }

/-- What the state before the band's evaluation holds. -/
theorem gone_fields (s : State) (n : Nat) (x : Session) (w : Cause) :
    (∀ p, x.boundLine = some p → (gone s n x w).line p = unbound (s.line p))
      ∧ (gone s n x w).sessions = s.sessions.eraseP (fun y => y.number == n)
      ∧ (gone s n x w).bills = s.bills ++ [(s.finalize n).billOf x w]
      ∧ (gone s n x w).accounts = (billed s n x w).accounts ∧ (gone s n x w).messages = s.messages
      ∧ (gone s n x w).waitQueue = s.waitQueue ∧ (gone s n x w).tariff = s.tariff
      ∧ (gone s n x w).link = (if s.bills.length = 0 ∨ s.bills.length = 95
          then s.link.reported (.billsWaiting (s.bills.length + 1)) else s.link) := by
  obtain ⟨lines, sessions, bills, -, queue, tariff, link⟩ := billed_fields s n x w
  have erased := (meterOnly_finalize n s).1
  rw [← sessions] at erased
  have messages : (billed s n x w).messages = s.messages := by simp [billed]
  unfold gone
  cases x.boundLine with
  | none => exact ⟨nofun, erased, bills, rfl, messages, queue, tariff, link⟩
  | some q =>
    dsimp only
    rw [InOut.unbindLine_eq, State.line_congr lines q]
    refine ⟨fun p bound => ?_, erased, bills, rfl, messages, queue, tariff, link⟩
    obtain rfl := Option.some.inj bound
    exact State.line_setLine_same _ q _

/-- An evaluation of the wait queue that changes nothing: no line waits, or no slot is free (R105). -/
theorem evaluate_idle (t : State) (h : t.waitQueue = [] ∨ t.link.limits.hostSlots ≤ t.sessions.length) : t.evaluate = t :=
  h.elim t.evaluate_nil t.evaluate_full

theorem closeSession_gone (found : (s.finalize n).findSession n = some x)
    (idle : ((gone s n x w).reband false).evaluate = (gone s n x w).reband false) :
    s.closeSession n w false = ((gone s n x w).reband false).queueReport (.sessionClosed n x.account x.boundLine w) := by
  have bound : (billed s n x w).boundLine n = x.boundLine := by
    unfold State.boundLine State.findSession
    rw [(billed_fields s n x w).2.1]
    exact congrArg (Option.bind · Session.boundLine) found
  have free : (billed s n x w).freeSession n false = (gone s n x w).reband false := by
    cases line : x.boundLine with
    | none => simp only [State.freeSession, gone, bound, line]
    | some p => simp only [State.freeSession, gone, bound, line]
  have close : s.closeSession n w false = (let s3 := (billed s n x w).freeSession n false
      (if s3.slotsInUse < s3.limits.hostSlots then s3.evaluate else s3).queueReport
        (.sessionClosed n x.account x.boundLine w)) := by
    simp only [State.closeSession, found, Bool.false_eq_true, if_false]
    rfl
  rw [close, free]
  dsimp only
  rw [idle, ite_self]

/-- What a close leaves of the session, of its account and of the band: a bill record with the session's own values, the charge
final (R121, R139, R161). -/
structure ClosedInto (s : State) (n : Nat) (x : Session) (w : Cause) (t : State) : Prop where
  bills : ∃ m, t.bills = s.bills ++ [s.billOf { x with meter := m } w]
  sessions : t.sessions = s.sessions.eraseP (fun y => y.number == n)
  account : ∀ a, s.findAccount x.account = some a → ∃ balance total,
    t.findAccount x.account = some { a with balance := balance, chargedTotal := total, active := a.active - 1 }
  band : s.bandSettled → t.tariff.band = s.tariff.steps.fallen s.tariff.band (s.sessions.length - 1)

/-- The account of a session that closes has one active session fewer (R121). -/
theorem billed_account (s : State) (n : Nat) (x : Session) (w : Cause) {a : Account} (found : s.findAccount x.account = some a) :
    ∃ balance total, (billed s n x w).findAccount x.account
      = some { a with balance := balance, chargedTotal := total, active := a.active - 1 } := by
  obtain ⟨balance, total, charged⟩ := moneyOnly_finalize s n x.account a found
  have kept : ((s.finalize n).addBill ((s.finalize n).billOf x w) false).findAccount x.account = _ :=
    (congrArg (List.find? _) (by simp)).trans charged
  exact ⟨balance, total, State.findAccount_mapAccount _ x.account (fun a => { a with active := a.active - 1 }) _ kept rfl⟩

theorem length_gone (found : s.findSession n = some x) (m : Meter) :
    (gone s n { x with meter := m } w).sessions.length = s.sessions.length - 1 ∧ 1 ≤ s.sessions.length := by
  have inTable := List.mem_of_find?_eq_some found
  have number := List.find?_some (p := fun y : Session => y.number == n) found
  obtain ⟨-, sessions, -⟩ := gone_fields s n { x with meter := m } w
  rw [sessions]
  exact ⟨List.length_eraseP_of_mem (p := fun y : Session => y.number == n) inTable number, List.length_pos_of_mem inTable⟩

/-- A session closes, and no waiting line takes its place: what is left before the line action (R121, R139, R164). -/
theorem closeSession_closedInto (found : s.findSession n = some x)
    (nobody : s.waitQueue = [] ∨ s.link.limits.hostSlots < s.sessions.length) (w : Cause) :
    ClosedInto s n x w (s.closeSession n w false)
      ∧ (s.closeSession n w false).waitQueue = s.waitQueue ∧ (s.closeSession n w false).messages = s.messages
      ∧ (∀ p, x.boundLine = some p → (s.closeSession n w false).line p = unbound (s.line p))
      ∧ ((s.closeSession n w false).tariff.band = s.tariff.band
            ∨ (s.closeSession n w false).tariff.band + 1 = s.tariff.band →
          (s.closeSession n w false).link = s.closeReports x w (s.closeSession n w false).tariff.band) := by
  have number : x.number = n := by simpa using List.find?_some found
  obtain ⟨m, final⟩ := (meterOnly_finalize n s).2 x found
  obtain ⟨length, some_session⟩ := length_gone (w := w) found m
  obtain ⟨line, sessions, bills, accounts, messages, queue, tariff, link⟩ := gone_fields s n { x with meter := m } w
  have limits : (gone s n { x with meter := m } w).link.limits = s.link.limits := by
    rw [link]
    split <;> simp
  have idle := evaluate_idle ((gone s n { x with meter := m } w).reband false) (by
    refine nobody.imp (fun empty => by simpa [queue]) fun full => ?_
    simp only [State.reband_frame, limits, length]
    omega)
  have moved := InOut.reband_link (gone s n { x with meter := m } w)
  have fallen (settled : s.bandSettled) := InOut.reband_fallen (gone s n { x with meter := m } w) (s.sessions.length - 1)
    (by rw [tariff, Nat.sub_add_cancel some_session]; exact settled) length
  rw [tariff] at fallen
  rw [tariff, length, link] at moved
  rw [closeSession_gone final idle]
  refine ⟨⟨⟨m, ?_⟩, ?_, fun a own => ?_, ?_⟩, ?_, ?_, fun p bound => ?_, fun band => ?_⟩
  · simp [bills, State.billOf]
  · simp [sessions]
  · obtain ⟨balance, total, charged⟩ := billed_account s n { x with meter := m } w own
    refine ⟨balance, total, ?_⟩
    simpa [State.findAccount, accounts] using charged
  · simpa using fallen
  · simp [queue]
  · simp [messages]
  · rw [← line p bound]
    exact State.line_congr (by simp) p
  · simp only [State.queueReport_frame] at band ⊢
    rw [State.queueReport_eq]
    dsimp only
    rw [moved band, State.closeReports, number]

/-! ## The line action (R14, R122) -/

/-- The causes of the expiries of an OPEN session, each with GOODBYE on its line (R122). -/
def saysGoodbye (w : Cause) : Prop := w = .idle ∨ w = .fundsExhausted ∨ w = .closedHours

/-- NO FUNDS, where the funds are exhausted, and GOODBYE are queued on a line (R44, R122). -/
def toldGoodbye (t : State) (p : Port) (w : Cause) : State :=
  (if w = .fundsExhausted then t.queueMessage p slotNoFunds else t).queueMessage p slotGoodbye

theorem closeAction_goodbye (t : State) (p : Port) (bids : saysGoodbye w) :
    t.closeAction (some p) w = (toldGoodbye t p w).dropWithMessage p := by
  rcases bids with rfl | rfl | rfl <;> rfl

theorem queueMessage_line (t : State) (p : Port) (m : Slot) :
    (t.queueMessage p m).line p = { t.line p with output := Places.told t m (t.line p).output } := by
  rw [Places.queueMessage_told, State.line_setLine_same]

/-- The messages of a cause join the queue of their line, and all else of the line and of the link stays. -/
theorem toldGoodbye_line (t : State) (p : Port) (w : Cause) :
    (toldGoodbye t p w).line p = { t.line p with output := ((toldGoodbye t p w).line p).output }
      ∧ ((toldGoodbye t p w).line p).shown =
          joined (if w = .fundsExhausted then joined (t.line p).shown t.messages[slotNoFunds] else (t.line p).shown)
            t.messages[slotGoodbye]
      ∧ (toldGoodbye t p w).link = t.link ∧ (toldGoodbye t p w).waitQueue = t.waitQueue := by
  unfold toldGoodbye
  split
  · refine ⟨?_, ?_, by simp, by simp⟩
    · rw [queueMessage_line, queueMessage_line]
    · rw [Accounts.queueMessage_shown, Accounts.queueMessage_shown]
      simp
  · exact ⟨by rw [queueMessage_line], Accounts.queueMessage_shown t p _, by simp, by simp⟩

/-- A CONNECTED line that is dropped with message drains its queue (R14). -/
theorem dropWithMessage_connected {t : State} {p : Port} (connected : (t.line p).state = .connected) :
    (t.dropWithMessage p).line p
      = { t.line p with state := .dropping, window := some 10, noiseCount := 0, noiseWindow := none } := by
  simp only [State.dropWithMessage, connected, State.line_mapLine_same]

/-- A drop with message leaves a wait queue that the line is not in (R109). -/
theorem dropWithMessage_waitQueue {t : State} {p : Port} (absent : p ∉ t.waitQueue) :
    (t.dropWithMessage p).waitQueue = t.waitQueue := by
  have hooked : (t.dropWithoutMessage p .idle).waitQueue = t.waitQueue := by
    unfold State.dropWithoutMessage
    split
    · simpa [State.goOnHook, List.filter_eq_self] using fun q hq => ne_of_mem_of_not_mem hq absent
    · rfl
  unfold State.dropWithMessage
  split
  · exact hooked
  · exact hooked
  · simp
  · rfl

theorem closeAction_line {t : State} {p : Port} (bids : saysGoodbye w) (connected : (t.line p).state = .connected) :
    ((t.closeAction (some p) w).line p).state = .dropping ∧ ((t.closeAction (some p) w).line p).window = some 10
      ∧ ((t.closeAction (some p) w).line p).holder = (t.line p).holder
      ∧ ((t.closeAction (some p) w).line p).shown =
          joined (if w = .fundsExhausted then joined (t.line p).shown t.messages[slotNoFunds] else (t.line p).shown)
            t.messages[slotGoodbye]
      ∧ (t.closeAction (some p) w).link = t.link := by
  obtain ⟨line, shown, link, -⟩ := toldGoodbye_line t p w
  have still : ((toldGoodbye t p w).line p).state = .connected := by rw [line]; exact connected
  have holder : ((toldGoodbye t p w).line p).holder = (t.line p).holder := by rw [line]
  rw [closeAction_goodbye t p bids, dropWithMessage_connected still, Accounts.dropWithMessage_link still]
  exact ⟨rfl, rfl, holder, shown, link⟩

theorem ClosedInto.closeAction {t : State} (h : ClosedInto s n x w t) (o : Option Port) (c : Cause) :
    ClosedInto s n x w (t.closeAction o c) := by
  obtain ⟨bills, sessions, account, band⟩ := h
  exact ⟨by simpa using bills, by simpa using sessions, by simpa [State.findAccount] using account, by simpa using band⟩

theorem unbound_fields (l : Line) : (unbound l).holder = .none ∧ (unbound l).output = l.output := by
  unfold unbound Line.clearWaiting
  dsimp only
  repeat' split
  all_goals exact ⟨rfl, rfl⟩

/-! ## The expiries (R115, R117, R151) -/

/-- An expiry, in the state that counts it, closes its session with its cause. -/
theorem exec_expiry {c : Instr} (found : s.findSession n = some x)
    (expiry : (c = .holdExpiry n ∧ x.state = .held ∧ w = .holdExpired)
      ∨ (c = .idleLimitExpiry n ∧ x.state = .open ∧ x.snapshot.record.idleLimit ≠ 0 ∧ w = .idle)
      ∨ (c = .fundsGraceExpiry n ∧ x.state = .open ∧ x.grace ≠ none ∧ w = .fundsExhausted)
      ∨ (c = .closingCountdownExpiry n ∧ x.state = .open ∧ x.countdown ≠ none ∧ w = .closedHours)) :
    exec c s = .next ((s.closeSession n w false).closeAction x.boundLine w) ∧ (x.state = .held ∨ saysGoodbye w) := by
  have act : s.closeAndAct n w = (s.closeSession n w false).closeAction x.boundLine w := by
    simp only [State.closeAndAct, State.boundLine, found, Option.bind_some]
  rw [← act]
  rcases expiry with ⟨rfl, state, rfl⟩ | ⟨rfl, state, runs, rfl⟩ | ⟨rfl, state, runs, rfl⟩ | ⟨rfl, state, runs, rfl⟩
  · refine ⟨congrArg Host.Outcome.next ?_, .inl state⟩
    simp [State.holdExpires, found, state]
  · refine ⟨congrArg Host.Outcome.next ?_, .inr (.inl rfl)⟩
    simp [State.idleLimitExpires, found, state, runs]
  · refine ⟨congrArg Host.Outcome.next ?_, .inr (.inr (.inl rfl))⟩
    simp [State.graceExpires, found, state, Option.isSome_iff_ne_none, runs]
  · refine ⟨congrArg Host.Outcome.next ?_, .inr (.inr (.inr rfl))⟩
    simp [State.countdownExpires, found, state, Option.isSome_iff_ne_none, runs]

/-- Settles O9: an expiry is a close and its line action; the close leaves the line CONNECTED and without a holder, and the line
action tells it the messages of the cause and has it drain. -/
theorem expiriesCloseSessions : Obligations.ExpiriesCloseSessions := by
  intro s n x c w found nobody expiry held
  obtain ⟨run, bids⟩ := exec_expiry found expiry
  obtain ⟨closed, queue, messages, line, link⟩ := closeSession_closedInto found nobody w
  have number : x.number = n := by simpa using List.find?_some found
  have goodbye {p : Port} (bound : x.boundLine = some p) : saysGoodbye w :=
    bids.resolve_left fun isHeld => by cases (held isHeld).symm.trans bound
  obtain ⟨⟨m, bills⟩, sessions, account, band⟩ := closed.closeAction x.boundLine w
  generalize s.closeSession n w false = t at run bills sessions account band queue messages line link
  have connected {p : Port} (bound : x.boundLine = some p) (was : (s.line p).state = .connected) :
      (t.line p).state = .connected := by rw [line p bound, InOut.unbound_state, was]
  refine ⟨_, _, run, bills, sessions, number, rfl, rfl, rfl, rfl, rfl, rfl, rfl, rfl, rfl, rfl, rfl, fun a own => ?_,
    fun p bound was => ?_, fun lines => ?_, fun absent => ?_, band⟩
  · obtain ⟨balance, total, charged⟩ := account a own
    exact ⟨_, charged, rfl, rfl, rfl⟩
  · obtain ⟨state, window, holder, shown, -⟩ := closeAction_line (goodbye bound) (connected bound was)
    obtain ⟨noHolder, output⟩ := unbound_fields (s.line p)
    have same : (t.line p).shown = (s.line p).shown := by rw [line p bound, Line.shown, output, Line.shown]
    rw [line p bound, noHolder] at holder
    rw [same, messages] at shown
    rw [bound]
    exact ⟨state, window, holder, shown⟩
  · have untouched : (t.closeAction x.boundLine w).link = t.link := by
      cases bound : x.boundLine with
      | none => rfl
      | some p =>
        obtain ⟨-, -, -, -, kept⟩ := closeAction_line (goodbye bound) (connected bound (lines p bound))
        exact kept
    rw [untouched]
    simpa using link
  · cases bound : x.boundLine with
    | none => exact queue
    | some p =>
      obtain ⟨-, -, -, told⟩ := toldGoodbye_line t p w
      rw [closeAction_goodbye t p (goodbye bound), dropWithMessage_waitQueue, told, queue]
      rw [told, queue]
      exact absent p bound

end Sys2Proof.Machine.Records
end
